-- ==== Sys2Proof/Word.lean ====
section
/-! DEFINITION. The two word widths of the block: bytes presented on the pins (spec/00_scope.md R9) and the
32-bit words of the bus, the queue and the table memory (spec/20_memory.md R65). -/

namespace Sys2Proof

/-- One sample, one byte of memory, one value of `pins[7:0]`. -/
abbrev Byte := BitVec 8

/-- One bus word, command word, queue entry or packed table word. -/
abbrev Word := BitVec 32

end Sys2Proof
end

