-- ==== Sys2Proof/Syntax.lean ====
section
/-! DEFINITION. The encoded objects of spec/30_encoding.md R90 as data: the thirteen rows of the opcode table
(eleven command words, two bus transactions), the bus transaction tuple, and the channel control word's fields. -/

namespace Sys2Proof

/-- The `dir` operand of formats `D` and `M` (R93): 0 means up (increase), 1 means down (decrease). -/
inductive Direction where
  | up
  | down
deriving DecidableEq, Repr

/-- One constructor per row of spec/opcode_table.json. Operands are what R93 assembles from the word: shape
indices and magnitudes are unsigned integers, the frequency operand a signed integer. -/
inductive Instr where
  /-- `NOP` (R245) -/
  | nop
  /-- `GEN s` (R131): generate shape table `s` -/
  | gen (s : Nat)
  /-- `GENALL` (R132): generate all thirteen tables -/
  | genall
  /-- `SETF imm` (R154): set the target frequency -/
  | setf (imm : Int)
  /-- `FDELTA dir, mag` (R155): change the target frequency -/
  | fdelta (dir : Direction) (mag : Nat)
  /-- `MDELTA dir` (R156): change the multiplier index -/
  | mdelta (dir : Direction)
  /-- `APPLYDIV` (R157): recompute and write the divisor -/
  | applydiv
  /-- `QUIESCE` (R177): disable consumption -/
  | quiesce
  /-- `RESUME` (R178): enable consumption -/
  | resume
  /-- `WAVE s` (R224): swap the active table -/
  | wave (s : Nat)
  /-- `START` (R199): configure both channels and start the stream -/
  | start
  /-- `RD addr` (R242): a host read over the bus; `bus_wdata` is ignored on a read (R91) -/
  | rd (addr : BitVec 16)
  /-- `WR addr, data` (R243): a host write over the bus -/
  | wr (addr : BitVec 16) (data : Word)
deriving DecidableEq, Repr

/-- Format `BUS` (R91): the tuple the host presents with `bus_req = 1`. -/
structure BusTxn where
  /-- `bus_we`: 1 = write, 0 = read -/
  we : Bool
  /-- `bus_addr[15:0]` -/
  addr : BitVec 16
  /-- `bus_wdata[31:0]` -/
  wdata : Word
deriving DecidableEq, Repr, Inhabited

/-- The fields of a channel control word `X.CTRL` (spec/10_state.md R34); every other bit reads 0. -/
structure Ctrl where
  /-- bit 0: channel enabled -/
  en : Bool
  /-- bit 1: `READ_ADDR` advances by 4 after each transfer -/
  incrRead : Bool
  /-- bit 2: `WRITE_ADDR` advances by 4 after each transfer -/
  incrWrite : Bool
  /-- bit 3: a transfer waits for queue-not-full -/
  pace : Bool
  /-- bit 4: completion triggers the other channel -/
  chainEn : Bool
  /-- bit 31: the channel is in a run (status) -/
  busy : Bool
deriving DecidableEq, Repr

/-- What a word of the opcode table is presented as: the value of a `WR` to `CMD`, or a bus transaction (R90). -/
inductive Encoded where
  | cmd (w : Word)
  | bus (t : BusTxn)
deriving DecidableEq, Repr

end Sys2Proof
end

