-- ==== Sys2Proof/WellFormed.lean ====
section
/-! DEFINITION. Which instruction terms the encoding can carry: the operand ranges of spec/30_encoding.md R93. -/

namespace Sys2Proof

/-- The operand ranges of R93: `s` is four bits, `imm` a 28-bit two's complement integer, `mag` sixteen bits.
Shape indices 13..15 are encodable; refusing them is the command's own rule (R96). -/
def Instr.wellFormed : Instr → Bool
  | .nop => true
  | .gen s => decide (s < 16)
  | .genall => true
  | .setf imm => decide (-134217728 ≤ imm) && decide (imm ≤ 134217727)
  | .fdelta _ mag => decide (mag ≤ 65535)
  | .mdelta _ => true
  | .applydiv => true
  | .quiesce => true
  | .resume => true
  | .wave s => decide (s < 16)
  | .start => true
  | .rd _ => true
  | .wr _ _ => true

end Sys2Proof
end

