-- ==== Sys2Proof/Decode.lean ====
section
/-! DEFINITION. spec/30_encoding.md: decoding a command word and a bus transaction (R91 to R96), the encoder,
the channel control word (R97), the packed table word (R99), and the host's `decodeTableWord`. -/

namespace Sys2Proof

/-! ## Fields of a command word (R92, R93) -/

/-- `op = cmd[31:28]`. -/
def opField (w : Word) : BitVec 4 := w.extractLsb' 28 4

/-- `s = cmd[3:0]`, unsigned. -/
def shapeField (w : Word) : Nat := (w.extractLsb' 0 4).toNat

/-- `imm = sext_28(cmd[27:0])`. -/
def immField (w : Word) : Int := (w.extractLsb' 0 28).toInt

/-- `dir = cmd[27]`: 0 up, 1 down. -/
def dirField (w : Word) : Direction := if w.getLsbD 27 then .down else .up

/-- `mag = zext_16(cmd[15:0])`. -/
def magField (w : Word) : Nat := (w.extractLsb' 0 16).toNat

/-- Why a command word is illegal (R96). -/
inductive DecodeError where
  /-- the opcode is `0xB`..`0xF` -/
  | reservedOpcode
  /-- a must-be-zero bit of the format is 1 -/
  | mustBeZero
deriving DecidableEq, Repr

/-- The instruction when the bits the format shows as 0 are 0 (R92); illegal otherwise (R96 (b)). -/
def whenZero {n : Nat} (bits : BitVec n) (i : Instr) : Except DecodeError Instr :=
  if bits = 0#n then .ok i else .error .mustBeZero

/-- Format `Z`: bits 27:0 are 0. -/
def formatZ (w : Word) (i : Instr) : Except DecodeError Instr := whenZero (w.extractLsb' 0 28) i

/-- Format `S`: bits 27:4 are 0. -/
def formatS (w : Word) (i : Instr) : Except DecodeError Instr := whenZero (w.extractLsb' 4 24) i

/-- Format `D`: bits 26:16 are 0. -/
def formatD (w : Word) (i : Instr) : Except DecodeError Instr := whenZero (w.extractLsb' 16 11) i

/-- Format `M`: bits 26:0 are 0. -/
def formatM (w : Word) (i : Instr) : Except DecodeError Instr := whenZero (w.extractLsb' 0 27) i

/-- The opcode map of R94, total on every 32-bit word (R95); illegal words by R96. -/
def decodeCmd (w : Word) : Except DecodeError Instr :=
  match (opField w).toNat with
  | 0x0 => formatZ w .nop
  | 0x1 => formatS w (.gen (shapeField w))
  | 0x2 => formatZ w .genall
  | 0x3 => .ok (.setf (immField w))
  | 0x4 => formatD w (.fdelta (dirField w) (magField w))
  | 0x5 => formatM w (.mdelta (dirField w))
  | 0x6 => formatZ w .applydiv
  | 0x7 => formatZ w .quiesce
  | 0x8 => formatZ w .resume
  | 0x9 => formatS w (.wave (shapeField w))
  | 0xA => formatZ w .start
  | _ => .error .reservedOpcode

/-- A bus transaction (R91): `bus_we = 0` is `RD addr`, `bus_we = 1` is `WR addr, data`. -/
def decodeBus (t : BusTxn) : Instr := if t.we then .wr t.addr t.wdata else .rd t.addr

/-- Decoding either kind of encoded object. -/
def decode : Encoded → Except DecodeError Instr
  | .cmd w => decodeCmd w
  | .bus t => .ok (decodeBus t)

/-! ## The encoder -/

/-- `dir` as its bit (R93). -/
def Direction.bit : Direction → BitVec 1
  | .up => 0#1
  | .down => 1#1

/-- The word or transaction of an instruction (R91, R92, R94). On an ill-formed term the operand is reduced to its
field; `bus_wdata`, ignored on a read, is written as 0. -/
def encode : Instr → Encoded
  | .nop => .cmd (0x0#4 ++ 0#28)
  | .gen s => .cmd (0x1#4 ++ 0#24 ++ BitVec.ofNat 4 s)
  | .genall => .cmd (0x2#4 ++ 0#28)
  | .setf imm => .cmd (0x3#4 ++ BitVec.ofInt 28 imm)
  | .fdelta dir mag => .cmd (0x4#4 ++ dir.bit ++ 0#11 ++ BitVec.ofNat 16 mag)
  | .mdelta dir => .cmd (0x5#4 ++ dir.bit ++ 0#27)
  | .applydiv => .cmd (0x6#4 ++ 0#28)
  | .quiesce => .cmd (0x7#4 ++ 0#28)
  | .resume => .cmd (0x8#4 ++ 0#28)
  | .wave s => .cmd (0x9#4 ++ 0#24 ++ BitVec.ofNat 4 s)
  | .start => .cmd (0xA#4 ++ 0#28)
  | .rd addr => .bus ⟨false, addr, 0#32⟩
  | .wr addr data => .bus ⟨true, addr, data⟩

/-! ## The opcode map as match and mask rows (R94) -/

/-- One row of R94's table: a word `c` is the command when `(c &&& mask) = pattern`. -/
structure OpcodeRow where
  mnemonic : String
  pattern : Word
  mask : Word
deriving DecidableEq, Repr

/-- The eleven rows of R94. -/
def opcodeRows : List OpcodeRow :=
  [ ⟨"NOP", 0x00000000#32, 0xFFFFFFFF#32⟩,
    ⟨"GEN", 0x10000000#32, 0xFFFFFFF0#32⟩,
    ⟨"GENALL", 0x20000000#32, 0xFFFFFFFF#32⟩,
    ⟨"SETF", 0x30000000#32, 0xF0000000#32⟩,
    ⟨"FDELTA", 0x40000000#32, 0xF7FF0000#32⟩,
    ⟨"MDELTA", 0x50000000#32, 0xF7FFFFFF#32⟩,
    ⟨"APPLYDIV", 0x60000000#32, 0xFFFFFFFF#32⟩,
    ⟨"QUIESCE", 0x70000000#32, 0xFFFFFFFF#32⟩,
    ⟨"RESUME", 0x80000000#32, 0xFFFFFFFF#32⟩,
    ⟨"WAVE", 0x90000000#32, 0xFFFFFFF0#32⟩,
    ⟨"START", 0xA0000000#32, 0xFFFFFFFF#32⟩ ]

/-- The word `w` is the command of row `r`. -/
def OpcodeRow.matchesWord (r : OpcodeRow) (w : Word) : Bool := (w &&& r.mask) == r.pattern

/-- The table's name of an instruction (spec/opcode_table.json). -/
def Instr.mnemonic : Instr → String
  | .nop => "NOP"
  | .gen _ => "GEN"
  | .genall => "GENALL"
  | .setf _ => "SETF"
  | .fdelta _ _ => "FDELTA"
  | .mdelta _ => "MDELTA"
  | .applydiv => "APPLYDIV"
  | .quiesce => "QUIESCE"
  | .resume => "RESUME"
  | .wave _ => "WAVE"
  | .start => "START"
  | .rd _ => "RD"
  | .wr _ _ => "WR"

/-! ## Channel control word (R97) -/

/-- `encode_ctrl(EN, INCR_READ, INCR_WRITE, PACE, CHAIN_EN)` of R97; bits 31:5 are 0 in every written value. -/
def encodeCtrl (en incrRead incrWrite pace chainEn : Bool) : Word :=
  0#27 ++ BitVec.ofBool chainEn ++ BitVec.ofBool pace ++ BitVec.ofBool incrWrite ++ BitVec.ofBool incrRead
    ++ BitVec.ofBool en

/-- `decode_ctrl(w)` of R97: the five fields from bits 4:0, the rest ignored; `BUSY` is status and 0 in every
written value. -/
def decodeCtrl (w : Word) : Ctrl :=
  { en := w.getLsbD 0, incrRead := w.getLsbD 1, incrWrite := w.getLsbD 2, pace := w.getLsbD 3,
    chainEn := w.getLsbD 4, busy := false }

/-- What a read of `X.CTRL` returns (R34, R98): the written fields, and `BUSY` in bit 31. -/
def ctrlWord (c : Ctrl) : Word :=
  encodeCtrl c.en c.incrRead c.incrWrite c.pace c.chainEn ||| (if c.busy then 0x80000000#32 else 0#32)

/-! ## Packed table word (R99) and byte order (spec/20_memory.md R63) -/

/-- `pack4(b0, b1, b2, b3)` of R99: `b0` in bits 7:0. -/
def pack4 (b0 b1 b2 b3 : Byte) : Word := b3 ++ b2 ++ b1 ++ b0

/-- Byte `j` of a word is bits `8*j+7 : 8*j` (R63). -/
def wordByte (w : Word) (j : Nat) : Byte := w.extractLsb' (8 * j) 8

/-- `unpack4` of R99: the four bytes, bits 7:0 first. -/
def unpack4 (w : Word) : List Byte := [wordByte w 0, wordByte w 1, wordByte w 2, wordByte w 3]

/-! ## The host's table words -/

/-- The bus tuple as the opcode table writes it, one 49-bit string: `bus_we` is bit 48, `bus_addr` bits 47:32,
`bus_wdata` bits 31:0. -/
def busTxnOfBits (w : Nat) : BusTxn :=
  { we := w.testBit 48, addr := BitVec.ofNat 16 (w / 2 ^ 32), wdata := BitVec.ofNat 32 w }

/-- The instruction the decoder reads from an opcode-table word of `nbits` bits: a command word when the row has
32 bits, a bus transaction when it has more (49, in whole bytes 56). -/
def decodeTableWord (nbits w : Nat) : Option Instr :=
  let bits := w % 2 ^ nbits
  if nbits ≤ 32 then
    match decodeCmd (BitVec.ofNat 32 bits) with
    | .ok i => some i
    | .error _ => none
  else if bits < 2 ^ 49 then some (decodeBus (busTxnOfBits bits))
  else none

end Sys2Proof
end

