-- ==== Sys2Proof/Config.lean ====
section
/-! DEFINITION. The construction-time parameters of spec/00_scope.md R10 and their legality (R11), the moves a
scheduler or the environment chooses among (R7, R8), and the free values the spec leaves open (U1, U4). -/

namespace Sys2Proof

/-- `ROUND_TIE` (R10, R122): how `round` resolves an exact half. -/
inductive RoundTie where
  | halfEven
  | halfUp
deriving DecidableEq, Repr

/-- `TRI_QUANT` (R10, R126): how the triangle value becomes an integer. -/
inductive TriQuant where
  | floor
  | round
deriving DecidableEq, Repr

/-- The parameters of R10 that an implementation fixes at construction. `F_MIN`, `F_MAX`, `NSHAPES` and
`STAIR_STEP` have one legal value and are constants below. -/
structure Params where
  /-- `N`, samples per cycle -/
  n : Nat
  /-- `C_HZ`, system clock rate -/
  cHz : Nat
  /-- `QDEPTH`, capacity of the BSU queue in words -/
  qdepth : Nat
  /-- `DIV_MAX`, largest legal divisor -/
  divMax : Nat
  /-- `MULT_MAX`, largest multiplier index -/
  multMax : Nat
  /-- `mult(0..MULT_MAX)` -/
  mult : List Nat
  /-- `F_INIT`, target frequency after reset -/
  fInit : Nat
  /-- `ROUND_TIE` -/
  roundTie : RoundTie
  /-- `TRI_QUANT` -/
  triQuant : TriQuant
  /-- `SINE_TABLE` for `N` other than 100 (R123; at `N = 100` the literal of R124 is used) -/
  sineTable : List Byte
  /-- `T_GEN`, clock cycles of one table-generation step in the reference schedule (timing only) -/
  tGen : Nat
deriving DecidableEq, Repr

/-- `F_MIN` (R10, R11). -/
def fMin : Nat := 20

/-- `F_MAX` (R10, R11). -/
def fMax : Nat := 1000000

/-- `NSHAPES` (R10). -/
def nShapes : Nat := 13

/-- `STAIR_STEP` (R10, R127). -/
def stairStep : Nat := 20

/-- `W = N / 4`, words per packed table (R10). -/
def Params.words (p : Params) : Nat := p.n / 4

/-- R11, with the field widths other rules give: `C_HZ < 2^32` (spec/10_state.md R30), `MULT_IDX` three bits (R27),
`mult` defined for every index, one sine sample per index when `N` is not 100, `T_GEN >= 1` (R10). -/
def Params.legal (p : Params) : Bool :=
  decide (0 < p.n) && decide (p.n % 4 = 0) && decide (p.n ≤ 1024) && decide (1 ≤ p.qdepth) && decide (p.qdepth ≤ 16)
    && decide (1 ≤ p.cHz) && decide (p.cHz < 2 ^ 32) && decide (fMin ≤ p.fInit) && decide (p.fInit ≤ fMax)
    && decide (1 ≤ p.divMax) && decide (p.divMax ≤ 65535) && decide (p.multMax ≤ 7)
    && decide (p.mult.length = p.multMax + 1) && decide (p.n = 100 ∨ p.sineTable.length = p.n) && decide (1 ≤ p.tGen)

/-- The defaults of R10. `T_GEN` is unspecified there; 1 is the model's choice (assumption log 7). -/
def Params.standard : Params :=
  { n := 100, cHz := 125000000, qdepth := 4, divMax := 65535, multMax := 5,
    mult := [1, 10, 100, 1000, 10000, 100000], fInit := 1000, roundTie := .halfEven, triQuant := .floor,
    sineTable := [], tGen := 1 }

/-- One move of the block or of its environment. `host` to `bsu` are the atomic steps of the five agents (R7, R8);
`clock`, `cycle` and `rst` are clock edges: the prescaler's (spec/42_bit_streaming_unit.md R176), a whole cycle of the
reference schedule (spec/70_reset_and_hazards.md R305), and an edge with `rst = 1` (R290). -/
inductive Move where
  /-- HOST presents a transaction (R241) -/
  | host (t : BusTxn)
  /-- SEQ takes its step, when it has one (R246) -/
  | seq
  /-- CHA takes its step, when it has one (R192, R196) -/
  | cha
  /-- CHB takes its step, when it has one (R192, R196) -/
  | chb
  /-- BSU takes its step, when it has one (R172) -/
  | bsu
  /-- a rising edge of `clk` as the tick prescaler sees it (R176) -/
  | clock
  /-- one clock cycle of the reference schedule, with or without a host transaction (R305) -/
  | cycle (t : Option BusTxn)
  /-- a rising edge of `clk` with `rst = 1` (R290) -/
  | rst
deriving DecidableEq, Repr, Inhabited

/-- The scheduler's and the environment's choice number `k`, when nothing has been placed in the agenda
(U4: any value of a scheduler). A free value: it has no body, so a statement holds whatever the schedule is. -/
opaque Config.freeMove : Nat → Move

/-- The content of the memory byte at an address that no step has written since reset number `r`
(U1, U3: an arbitrary but fixed value). A free value. -/
opaque Config.unwrittenByte (r : Nat) (addr : Nat) : Byte

end Sys2Proof
end

