-- ==== Sys2Proof/Machine/State.lean ====
section
/-! DEFINITION. The state of the block (spec/10_state.md R20 to R41), the reasons a step can stop, and the state
after reset (R45). -/

namespace Sys2Proof.Machine

/-- A state that no rule of the spec gives a step to. -/
inductive Fault where
  /-- Raised by the `GEN_LOOP` step of `GENALL` when `seq_idx > 12`, and by the copy step of `WAVE` when
  `seq_idx >= W` or the shape is above 12: `table(s)` is defined for `s` in 0..12 only (R120) and no table word has
  such an index. No state reached from reset has it. Safe: the model stops where the spec says nothing. -/
  | sequencerIndex
deriving DecidableEq, Repr

/-- Why the model gives no state. -/
inductive Refusal where
  /-- An instruction without a meaning in the model: no arm of `exec` answers it. Safe. -/
  | notModelled (mnemonic : String)
  /-- Raised by `State.construct` only: parameters that R11 refuses at construction. Safe: the spec refuses too. -/
  | illegalParameters
deriving DecidableEq, Repr

/-- Every step answers in the host's three outcomes. -/
abbrev Result (σ : Type) := Host.Outcome σ Fault Refusal

/-- The position of the sequencer inside a command (R37). -/
inductive SeqPhase where
  | idle
  | exec
  | genLoop
  | wvQuiesce
  | wvCopy
  | wvResume
deriving DecidableEq, Repr

/-- The two transfer channels (R33). -/
inductive Chan where
  | a
  | b
deriving DecidableEq, Repr

/-- `other(X)` (spec/00_scope.md section 5). -/
def Chan.other : Chan → Chan
  | .a => .b
  | .b => .a

/-- A channel's descriptor (R33). -/
structure Channel where
  readAddr : Word
  writeAddr : Word
  transCount : Word
  ctrl : Ctrl
  countReload : Word
deriving DecidableEq, Repr

/-- The seven error causes (spec/60_exceptions.md R261). -/
inductive ErrCause where
  | divRange
  | noTable
  | noDiv
  | illegalCmd
  | cmdOverrun
  | bus
  | restart
deriving DecidableEq, Repr

/-- The whole machine. Plain data. -/
structure State where
  /-- construction-time parameters (R10); no step changes them (R44) -/
  params : Params
  /-- `cmd_reg` (R24, R37) -/
  cmdReg : Word
  /-- `STATUS.CMD_BUSY` (R25) -/
  cmdBusy : Bool
  /-- `seq_phase` (R37) -/
  seqPhase : SeqPhase
  /-- `seq_idx` (R37) -/
  seqIdx : BitVec 9
  /-- `STATUS.STARTED` (R25) -/
  started : Bool
  /-- `bsu_en`, `STATUS.BSU_EN` (R25, R36) -/
  bsuEn : Bool
  /-- `STATUS.DIV_VALID` (R25) -/
  divValid : Bool
  /-- `ERR[6:0]`, sticky (R25, R261) -/
  err : BitVec 7
  /-- `FREQ[19:0]` (R26) -/
  freq : BitVec 20
  /-- `MULT_IDX` (R27) -/
  multIdx : BitVec 3
  /-- `DIV[15:0]` (R28) -/
  divReg : BitVec 16
  /-- `SHAPE_SEL` (R29) -/
  shapeSel : BitVec 4
  /-- `gen_done[12:0]` (R31) -/
  genDone : BitVec 13
  /-- Channel A's descriptor (R33) -/
  chA : Channel
  /-- Channel B's descriptor (R33) -/
  chB : Channel
  /-- `txq`, head first (R36, R171) -/
  txq : List Word
  /-- `osr` (R36) -/
  osr : Word
  /-- `osr_cnt` (R36) -/
  osrCnt : BitVec 3
  /-- `pins[7:0]` (R36) -/
  pins : Byte
  /-- `presc` (R36, R176) -/
  presc : BitVec 16
  /-- table memory and `LIT` (R38), by byte address; an address not listed has not been written since reset -/
  mem : List Host.Cell
  /-- ghost `out_trace` (R41) -/
  outTrace : List Byte
  /-- ghost `push_trace` (R41) -/
  pushTrace : List Word
  /-- port `bus_rdata` (R240) -/
  busRdata : Word
  /-- port `bus_ack` (R240): the last step performed a host transaction -/
  busAck : Bool
  /-- port `bus_err` (R240): with `bus_ack`, the transaction was refused -/
  busErr : Bool
  /-- the model's own: moves already chosen, next first (U4) -/
  agenda : List Move
  /-- the model's own: free moves taken so far -/
  freeCtr : Nat
  /-- the model's own: resets since construction, which number the free memory contents (U1, U3) -/
  resets : Nat
  /-- the model's own: cycles the current table-generation step has occupied (`T_GEN`, R305) -/
  genWait : Nat
deriving DecidableEq, Repr

/-- A descriptor after reset: every register 0 (R45). -/
def Channel.reset : Channel :=
  { readAddr := 0#32, writeAddr := 0#32, transCount := 0#32,
    ctrl := { en := false, incrRead := false, incrWrite := false, pace := false, chainEn := false, busy := false },
    countReload := 0#32 }

/-- `SHAPE_SEL` when no copy has completed: 15, `NONE` (R29). -/
def noShape : BitVec 4 := 15#4

/-- R45 for a block built with parameters `p`: nothing listed in memory, no move chosen. -/
def State.ofParams (p : Params) : State :=
  { params := p, cmdReg := 0#32, cmdBusy := false, seqPhase := .idle, seqIdx := 0#9, started := false, bsuEn := false,
    divValid := false, err := 0#7, freq := BitVec.ofNat 20 p.fInit, multIdx := 0#3, divReg := 0#16,
    shapeSel := noShape, genDone := 0#13, chA := Channel.reset, chB := Channel.reset, txq := [], osr := 0#32,
    osrCnt := 0#3, pins := 0#8, presc := 0#16, mem := [], outTrace := [], pushTrace := [], busRdata := 0#32,
    busAck := false, busErr := false, agenda := [], freeCtr := 0, resets := 0, genWait := 0 }

/-- Building the block (R11): illegal parameters are refused at construction. -/
def State.construct (p : Params) : Result State :=
  if p.legal then .next (State.ofParams p) else .refused .illegalParameters

/-- The block of R10's default parameters right after reset (R45). -/
def State.reset : State := State.ofParams Params.standard

end Sys2Proof.Machine
end

