-- ==== Sys2Proof/Machine/Flags.lean ====
section
/-! DEFINITION. The flags of spec/10_state.md R39 and the registers as a bus read shows them: `STATUS` (R25), `GENSTAT`
(R31), `QSTAT` (R32) and the other control and status registers (R23), and the descriptors (R33, R34). -/

namespace Sys2Proof.Machine

/-- The cause code of an error, which is its bit number in `ERR` (spec/60_exceptions.md R261). -/
def ErrCause.code : ErrCause → Nat
  | .divRange => 0
  | .noTable => 1
  | .noDiv => 2
  | .illegalCmd => 3
  | .cmdOverrun => 4
  | .bus => 5
  | .restart => 6

/-- The sticky flag of cause `e`: `ERR[code]` (R261). -/
def State.hasErr (s : State) (e : ErrCause) : Bool := s.err.getLsbD e.code

/-- `ERR[2:0] != 0`: some configuration error is recorded (R261, R275). -/
def State.hasConfigErr (s : State) : Bool := s.hasErr .divRange || s.hasErr .noTable || s.hasErr .noDiv

/-- `gen_done[i]` (R31). -/
def State.generated (s : State) (i : Nat) : Bool := s.genDone.getLsbD i

/-- `STATUS` (R25): bit 0 `CMD_BUSY`, 1 `STARTED`, 2 `BSU_EN`, 3 `DIV_VALID`, 14:8 `ERR`, the rest 0. -/
def State.statusWord (s : State) : Word :=
  0#17 ++ s.err ++ 0#4 ++ BitVec.ofBool s.divValid ++ BitVec.ofBool s.bsuEn ++ BitVec.ofBool s.started
    ++ BitVec.ofBool s.cmdBusy

/-- `QSTAT` (R32): bits 4:0 `QLEVEL`, 10:8 `OSR_CNT`, 23:16 `PINS`, the rest 0. -/
def State.qstatWord (s : State) : Word :=
  0#8 ++ s.pins ++ 0#5 ++ s.osrCnt ++ 0#3 ++ BitVec.ofNat 5 s.txq.length

/-- The control and status registers (R23). -/
inductive Csr where
  | cmd
  | status
  | freq
  | mult
  | div
  | shape
  | nsamp
  | genstat
  | qstat
  | clkhz
  | osr
deriving DecidableEq, Repr

/-- What a read of a control or status register returns (R23 to R32): fields right-aligned, reserved bits 0. -/
def State.csrWord (s : State) : Csr → Word
  | .cmd => s.cmdReg
  | .status => s.statusWord
  | .freq => s.freq.setWidth 32
  | .mult => s.multIdx.setWidth 32
  | .div => s.divReg.setWidth 32
  | .shape => s.shapeSel.setWidth 32
  | .nsamp => BitVec.ofNat 32 s.params.n
  | .genstat => s.genDone.setWidth 32
  | .qstat => s.qstatWord
  | .clkhz => BitVec.ofNat 32 s.params.cHz
  | .osr => s.osr

/-- The registers of a descriptor (R33). -/
inductive DescReg where
  | readAddr
  | writeAddr
  | transCount
  | ctrl
  | countReload
deriving DecidableEq, Repr

/-- What a read of a descriptor register returns (R33, R34). -/
def Channel.word (c : Channel) : DescReg → Word
  | .readAddr => c.readAddr
  | .writeAddr => c.writeAddr
  | .transCount => c.transCount
  | .ctrl => ctrlWord c.ctrl
  | .countReload => c.countReload

end Sys2Proof.Machine
end

