-- ==== Sys2Proof/Machine/Operands.lean ====
section
/-! DEFINITION. The arithmetic of the commands' operands: the frequency clamp (spec/41_clock_rate.md R153), the
frequency and multiplier steps (R155, R156) and the divisor (R150, R152). All over the mathematical integers. -/

namespace Sys2Proof.Machine

/-- `clampF(v) = clamp(v, 20, 1_000_000)` (R153). -/
def clampF (v : Int) : Nat := if v < fMin then fMin else if (fMax : Int) < v then fMax else v.toNat

/-- The 20-bit `FREQ` value of a requested frequency (R26, R153); a clamped value always fits. -/
def freqOf (v : Int) : BitVec 20 := BitVec.ofNat 20 (clampF v)

/-- `mult(k)` (R10). -/
def multOf (p : Params) (k : Nat) : Nat := p.mult.getD k 0

/-- The target of `FDELTA` before the clamp (R155): never wrapped. -/
def steppedFreq (p : Params) (freq : BitVec 20) (multIdx : BitVec 3) (dir : Direction) (mag : Nat) : Int :=
  let step : Int := mag * multOf p multIdx.toNat
  match dir with
  | .up => freq.toNat + step
  | .down => freq.toNat - step

/-- The index after `MDELTA` (R156): one step, held at 0 and `MULT_MAX`. -/
def steppedMult (p : Params) (multIdx : BitVec 3) : Direction → BitVec 3
  | .up => BitVec.ofNat 3 (min (multIdx.toNat + 1) p.multMax)
  | .down => BitVec.ofNat 3 (multIdx.toNat - 1)

/-- `computeDivisor(C, F, N) = C div (F * N)` (R150). -/
def computeDivisor (c f n : Nat) : Nat := c / (f * n)

/-- `1 <= D <= DIV_MAX` (R152). -/
def divisorLegal (p : Params) (d : Nat) : Bool := decide (1 ≤ d) && decide (d ≤ p.divMax)

/-- The divisor the Clock Rate Controller computes from the current registers (R157). -/
def State.wantedDivisor (s : State) : Nat := computeDivisor s.params.cHz s.freq.toNat s.params.n

end Sys2Proof.Machine
end

