-- ==== Sys2Proof/Machine/Ops.lean ====
section
/-! DEFINITION. The shared operations: raising an error (spec/60_exceptions.md R260), finishing a command
(spec/45_host_interface.md R246), the memory and the address map (spec/20_memory.md R60 to R67), the queue
(spec/42_bit_streaming_unit.md R171), the channel registers and the trigger (spec/43_transfer_engine.md R194). -/

namespace Sys2Proof.Machine

/-! ## Errors and completion -/

/-- `raise <E>` (R260), the block's only "exception entry" (R274): the sticky flag of the cause becomes 1 and nothing
else changes. There is no handler and no return (R260, R275). -/
def State.raise (s : State) (e : ErrCause) : State := { s with err := s.err ||| (1#7 <<< e.code) }

/-- `cmd_busy <- 0 ; seq_phase <- IDLE`, the end of every command (R246). -/
def State.finish (s : State) : State := { s with cmdBusy := false, seqPhase := .idle }

/-- A command-level error: the flag, the end of the command and nothing else (R274). -/
def State.refuseCmd (s : State) (e : ErrCause) : State := (s.raise e).finish

/-! ## Byte memory -/

/-- The byte listed at an address, if a step has written it. -/
def Memory.lookup : List Host.Cell → Nat → Option Byte
  | [], _ => none
  | (b, x) :: rest, a => if a = b then some x else Memory.lookup rest a

/-- Writing one byte, keeping the cells in rising order of address. -/
def Memory.insert : List Host.Cell → Nat → Byte → List Host.Cell
  | [], a, v => [(a, v)]
  | (b, x) :: rest, a, v =>
    if a < b then (a, v) :: (b, x) :: rest
    else if a = b then (a, v) :: rest
    else (b, x) :: Memory.insert rest a v

/-- The canonical form: addresses strictly rising. An unlisted address reads as no written value, which no entry
equals, so equal memories are equal lists. -/
abbrev Memory.wf (m : List Host.Cell) : Prop := m.Pairwise (fun x y => x.1 < y.1)

/-- Writing one aligned word at byte address `a`, little-endian (R63). -/
def Memory.insertWord (m : List Host.Cell) (a : Nat) (v : Word) : List Host.Cell :=
  Memory.insert (Memory.insert (Memory.insert (Memory.insert m a (wordByte v 0)) (a + 1) (wordByte v 1))
    (a + 2) (wordByte v 2)) (a + 3) (wordByte v 3)

/-- Writing consecutive words from byte address `a` upwards. -/
def Memory.insertWords (m : List Host.Cell) (a : Nat) : List Word → List Host.Cell
  | [] => m
  | v :: vs => Memory.insertWords (Memory.insertWord m a v) (a + 4) vs

/-- The byte at an address: the last value written, or the free value of a byte not written since reset
(R67, U1). -/
def State.byteAt (s : State) (a : Nat) : Byte := (Memory.lookup s.mem a).getD (Config.unwrittenByte s.resets a)

/-- The word at an aligned byte address, little-endian (R63, R65). -/
def State.wordAt (s : State) (a : Nat) : Word :=
  pack4 (s.byteAt a) (s.byteAt (a + 1)) (s.byteAt (a + 2)) (s.byteAt (a + 3))

/-- A word write to table memory or `LIT` (R67). -/
def State.putWord (s : State) (a : Nat) (v : Word) : State := { s with mem := Memory.insertWord s.mem a v }

/-- Word writes to consecutive addresses. -/
def State.putWords (s : State) (a : Nat) (vs : List Word) : State := { s with mem := Memory.insertWords s.mem a vs }

/-! ## The address map (R61) and the access rights (R62) -/

/-- `TXQ_ADDR` (R61). -/
def txqAddr : Nat := 0x0200

/-- `LIT_ADDR` (R61). -/
def litAddr : Nat := 0x0300

/-- `SHAPE_BASE(s) = 0x4000 + 0x400 * s` (R61). -/
def shapeBase (s : Nat) : Nat := 0x4000 + 0x400 * s

/-- `ACTIVE_BASE` (R61). -/
def activeBase : Nat := 0x8000

/-- The address of `A.READ_ADDR` (R61), Channel B's destination. -/
def aReadAddrAddr : Nat := 0x0100

/-- What stands at an address (R61). -/
inductive Loc where
  | csr (r : Csr)
  | desc (x : Chan) (r : DescReg)
  | txq
  | lit
  | shapeMem (s : Nat) (w : Nat)
  | active (w : Nat)
  | unmapped
deriving DecidableEq, Repr

/-- The single-word locations of the map (R61, R23, R33). -/
def wordMap : List (Nat × Loc) :=
  [ (0x0000, .csr .cmd), (0x0004, .csr .status), (0x0008, .csr .freq), (0x000C, .csr .mult), (0x0010, .csr .div),
    (0x0014, .csr .shape), (0x0018, .csr .nsamp), (0x001C, .csr .genstat), (0x0020, .csr .qstat),
    (0x0024, .csr .clkhz), (0x0028, .csr .osr),
    (0x0100, .desc .a .readAddr), (0x0104, .desc .a .writeAddr), (0x0108, .desc .a .transCount),
    (0x010C, .desc .a .ctrl), (0x0110, .desc .a .countReload),
    (0x0120, .desc .b .readAddr), (0x0124, .desc .b .writeAddr), (0x0128, .desc .b .transCount),
    (0x012C, .desc .b .ctrl), (0x0130, .desc .b .countReload),
    (0x0200, .txq), (0x0300, .lit) ]

/-- The table memories of the map (R61): thirteen slots of `0x400` bytes with `W` words each, and `ACTIVE`. -/
def tableLoc (p : Params) (a : Nat) : Loc :=
  if 0x4000 ≤ a ∧ a < 0x4000 + 0x400 * nShapes ∧ (a - 0x4000) % 0x400 < 4 * p.words then
    .shapeMem ((a - 0x4000) / 0x400) ((a - 0x4000) % 0x400 / 4)
  else if activeBase ≤ a ∧ a < activeBase + 4 * p.words then .active ((a - activeBase) / 4)
  else .unmapped

/-- The location of an address. A misaligned address names none (R61: every location is one aligned word); R64 treats
it like an unmapped one. Addresses with a bit of 31:16 set are unmapped (R60). -/
def locate (p : Params) (a : Nat) : Loc :=
  if a % 4 = 0 then
    match wordMap.lookup a with
    | some l => l
    | none => tableLoc p a
  else .unmapped

/-- The HOST read column of R62. -/
def Loc.hostReadable : Loc → Bool
  | .unmapped => false
  | .csr _ | .desc _ _ | .txq | .lit | .shapeMem _ _ | .active _ => true

/-- The DMA read column of R62. -/
def Loc.dmaReadable : Loc → Bool
  | .lit | .shapeMem _ _ | .active _ => true
  | .csr _ | .desc _ _ | .txq | .unmapped => false

/-! ## Channels -/

/-- Channel `X`'s descriptor. -/
def State.chan (s : State) : Chan → Channel
  | .a => s.chA
  | .b => s.chB

/-- Writing channel `X`'s descriptor. -/
def State.setChan (s : State) (x : Chan) (c : Channel) : State :=
  match x with
  | .a => { s with chA := c }
  | .b => { s with chB := c }

/-- `trigger(Y)` (R194): the count is reloaded, the channel enabled and set busy; addresses are untouched. -/
def State.trigger (s : State) (y : Chan) : State :=
  let c := s.chan y
  s.setChan y { c with transCount := c.countReload, ctrl := { c.ctrl with en := true, busy := true } }

/-! ## Content and accesses -/

/-- The current content of a mapped location (R67); `TXQ` reads as 0 (R62). -/
def State.content (s : State) (a : Nat) : Loc → Word
  | .csr r => s.csrWord r
  | .desc x r => (s.chan x).word r
  | .txq => 0#32
  | .lit | .shapeMem _ _ | .active _ => s.wordAt a
  | .unmapped => 0#32

/-- `txq.push_back(v)` when there is room, with the ghost `push_trace`; otherwise dropped silently (R66, R171,
R192). -/
def State.pushTxq (s : State) (v : Word) : State :=
  if s.txq.length < s.params.qdepth then { s with txq := s.txq ++ [v], pushTrace := s.pushTrace ++ [v] } else s

/-- `DmaRead(addr)` (R67, R193): the content where the DMA master may read, otherwise 0 and `E_BUS` (R64). -/
def State.dmaRead (s : State) (addr : Word) : Word × State :=
  let l := locate s.params addr.toNat
  if l.dmaReadable then (s.content addr.toNat l, s) else (0#32, s.raise .bus)

/-- `DmaWrite(addr, v)` (R67, R193): `TXQ` pushes, `A.READ_ADDR` takes the word, any other location is refused (R62,
R64). -/
def State.dmaWrite (s : State) (addr : Word) (v : Word) : State :=
  match locate s.params addr.toNat with
  | .txq => s.pushTxq v
  | .desc .a .readAddr => { s with chA := { s.chA with readAddr := v } }
  | .csr _ | .desc _ _ | .lit | .shapeMem _ _ | .active _ | .unmapped => s.raise .bus

/-- The end of a host transaction (R240, R242, R243): `bus_ack` and `bus_err`. -/
def State.ackBus (s : State) (err : Bool) : State := { s with busAck := true, busErr := err }

/-- A refused host transaction: `bus_err <- 1` and the flag (R64, R243). -/
def State.refuseBus (s : State) (e : ErrCause) : State := (s.raise e).ackBus true

end Sys2Proof.Machine
end

