-- ==== Sys2Proof/Machine/HostInterface.lean ====
section
/-! DEFINITION. spec/45_host_interface.md: the host's transactions `RD` and `WR` (R242, R243), command acceptance
(R244) and `NOP` (R245). -/

namespace Sys2Proof.Machine

/-- `accept(data)` (R244): legality is judged later, by the sequencer. -/
def State.accept (s : State) (data : Word) : State :=
  { s with cmdReg := data, cmdBusy := true, seqPhase := .exec }

/-- `RD addr` (R242). -/
def execRd (addr : BitVec 16) (s : State) : Result State :=
  let l := locate s.params addr.toNat
  if l.hostReadable then .next { s.ackBus false with busRdata := s.content addr.toNat l }
  else .next { s.refuseBus .bus with busRdata := 0#32 }

/-- `WR addr, data` (R243): only `CMD` is host-writable, and only when no command is in progress. -/
def execWr (addr : BitVec 16) (data : Word) (s : State) : Result State :=
  if addr = 0x0000#16 then
    if s.cmdBusy then .next (s.refuseBus .cmdOverrun) else .next ((s.accept data).ackBus false)
  else .next (s.refuseBus .bus)

/-- `NOP` (R245). -/
def execNop (s : State) : Result State := .next s.finish

end Sys2Proof.Machine
end

