-- ==== Sys2Proof/Machine/BitStreaming.lean ====
section
/-! DEFINITION. spec/42_bit_streaming_unit.md: the tick (R172 to R175), its pacing (R176), and the commands `QUIESCE`
and `RESUME` (R177, R178). -/

namespace Sys2Proof.Machine

/-- `bsu_tick` is enabled: `bsu_en = 1` and (`osr_cnt > 0` or `len(txq) > 0`) (R172, R173). -/
def State.bsuEnabled (s : State) : Bool := s.bsuEn && (decide (s.osrCnt ≠ 0#3) || !s.txq.isEmpty)

/-- The auto-refill (R172): when `osr_cnt = 0` the head of the queue becomes `osr`, with 4 bytes to present. -/
def State.refill (s : State) : State :=
  if s.osrCnt = 0#3 then
    match s.txq with
    | [] => s
    | v :: rest => { s with txq := rest, osr := v, osrCnt := 4#3 }
  else s

/-- Presenting bits 7:0 of `osr` (R172), with the ghost `out_trace`. -/
def State.present (s : State) : State :=
  { s with pins := s.osr.extractLsb' 0 8, osr := s.osr >>> 8, osrCnt := s.osrCnt - 1#3,
           outTrace := s.outTrace ++ [s.osr.extractLsb' 0 8] }

/-- `bsu_tick` (R172). -/
def State.bsuTick (s : State) : State := s.refill.present

/-- The BSU's move: its tick when enabled; stalled or disabled it changes nothing (R174, R175). -/
def State.bsuMove (s : State) : State := if s.bsuEnabled then s.bsuTick else s

/-- The next rising edge of `clk` is a tick (R176). -/
def State.atTick (s : State) : Bool := s.bsuEn && decide (s.presc.toNat ≤ 1)

/-- A rising edge of `clk` at the prescaler (R176): frozen while `bsu_en = 0`; at `presc <= 1` the edge is a tick,
`presc` is reloaded with `DIV` and the BSU takes its step if enabled; otherwise `presc` counts down. -/
def State.clockEdge (s : State) : State :=
  if s.bsuEn then
    if s.presc.toNat ≤ 1 then { s with presc := s.divReg }.bsuMove
    else { s with presc := s.presc - 1#16 }
  else s

/-- STREAMING to QUIESCED (spec/44_swap_arbiter.md R221): `bsu_en <- 0`. -/
def State.quiesceBsu (s : State) : State := { s with bsuEn := false }

/-- QUIESCED to STREAMING (R223): `bsu_en <- STARTED`. -/
def State.resumeBsu (s : State) : State := { s with bsuEn := s.started }

/-- `QUIESCE` (R177). -/
def execQuiesce (s : State) : Result State := .next s.quiesceBsu.finish

/-- `RESUME` (R178). -/
def execResume (s : State) : Result State := .next s.resumeBsu.finish

end Sys2Proof.Machine
end

