-- ==== Sys2Proof/Machine/ClockRate.lean ====
section
/-! DEFINITION. spec/41_clock_rate.md: the Clock Rate Controller and the commands `SETF`, `FDELTA`, `MDELTA`,
`APPLYDIV` (R154 to R157). -/

namespace Sys2Proof.Machine

/-- `SETF imm` (R154). -/
def execSetf (imm : Int) (s : State) : Result State := .next { s with freq := freqOf imm }.finish

/-- `FDELTA dir, mag` (R155). -/
def execFdelta (dir : Direction) (mag : Nat) (s : State) : Result State :=
  .next { s with freq := freqOf (steppedFreq s.params s.freq s.multIdx dir mag) }.finish

/-- `MDELTA dir` (R156). -/
def execMdelta (dir : Direction) (s : State) : Result State :=
  .next { s with multIdx := steppedMult s.params s.multIdx dir }.finish

/-- The Clock Rate Controller's action (R157, R159): `DIV` and `DIV_VALID`, or nothing when the divisor is out of
range (R152). -/
def State.applyDivisor (s : State) : Option State :=
  if divisorLegal s.params s.wantedDivisor then
    some { s with divReg := BitVec.ofNat 16 s.wantedDivisor, divValid := true }
  else none

/-- `APPLYDIV` (R157). -/
def execApplydiv (s : State) : Result State :=
  match s.applyDivisor with
  | some s1 => .next s1.finish
  | none => .next (s.refuseCmd .divRange)

end Sys2Proof.Machine
end

