-- ==== Sys2Proof/Machine/SwapArbiter.lean ====
section
/-! DEFINITION. spec/44_swap_arbiter.md: the Waveform Swap Controller and the command `WAVE` (R224). -/

namespace Sys2Proof.Machine

/-- `WAVE s`, step 0 (R224): the shape check, then the divisor re-application, in that order (R273). -/
def waveBegin (shape : Nat) (s : State) : Result State :=
  if 12 < shape ∨ s.generated shape = false then .next (s.refuseCmd .illegalCmd)
  else
    match s.applyDivisor with
    | some s1 => .next { s1 with seqPhase := .wvQuiesce }
    | none => .next (s.refuseCmd .divRange)

/-- `WAVE s`, the `WV_QUIESCE` step (R224, R221). -/
def waveQuiesce (s : State) : Result State := .next { s.quiesceBsu with seqIdx := 0#9, seqPhase := .wvCopy }

/-- `WAVE s`, a `WV_COPY` step (R224, R222): one word of `SHAPE_MEM[s]` into `ACTIVE`; the last one sets
`SHAPE_SEL`. -/
def waveCopy (shape : Nat) (s : State) : Result State :=
  let w := s.seqIdx.toNat
  if 12 < shape ∨ s.params.words ≤ w then .fault .sequencerIndex
  else
    let s1 := s.putWord (activeBase + 4 * w) (s.wordAt (shapeBase shape + 4 * w))
    if w = s.params.words - 1 then .next { s1 with shapeSel := BitVec.ofNat 4 shape, seqPhase := .wvResume }
    else .next { s1 with seqIdx := BitVec.ofNat 9 (w + 1) }

/-- `WAVE s`, the `WV_RESUME` step (R224, R223). -/
def waveResume (s : State) : Result State := .next s.resumeBsu.finish

/-- `WAVE s` (R224): the step its phase names. -/
def execWave (shape : Nat) (s : State) : Result State :=
  match s.seqPhase with
  | .wvQuiesce => waveQuiesce s
  | .wvCopy => waveCopy shape s
  | .wvResume => waveResume s
  | .idle | .exec | .genLoop => waveBegin shape s

end Sys2Proof.Machine
end

