-- ==== Sys2Proof/Machine/TableGenerator.lean ====
section
/-! DEFINITION. spec/40_table_generator.md: the thirteen sample tables (R120 to R130) and the commands `GEN` and
`GENALL` (R131, R132). -/

namespace Sys2Proof.Machine

/-- `round_tie(p / q)` in integers (R122). -/
def roundTie (t : RoundTie) (p q : Nat) : Nat :=
  let r := (2 * p + q) / (2 * q)
  match t with
  | .halfUp => r
  | .halfEven => if (2 * p + q) % (2 * q) = 0 ∧ r % 2 = 1 then r - 1 else r

/-- `table(0)[0..99]` at `N = 100` (R124). -/
def sine100 : List Byte :=
  [ 132, 140, 148, 156, 163, 171, 178, 186, 193, 199,
    206, 212, 218, 223, 228, 233, 237, 241, 245, 247,
    250, 252, 253, 254, 255, 255, 254, 253, 252, 250,
    247, 245, 241, 237, 233, 228, 223, 218, 212, 206,
    199, 193, 186, 178, 171, 163, 156, 148, 140, 132 ] ++
  [ 124, 116, 108, 100,  93,  85,  78,  70,  63,  57,
     50,  44,  38,  33,  28,  23,  19,  15,  11,   9,
      6,   4,   3,   2,   1,   1,   2,   3,   4,   6,
      9,  11,  15,  19,  23,  28,  33,  38,  44,  50,
     57,  63,  70,  78,  85,  93, 100, 108, 116, 124 ]

/-- Sine (R123, R124): the literal at `N = 100`, the parameter `SINE_TABLE` otherwise. -/
def sineSample (p : Params) (i : Nat) : Nat := ((if p.n = 100 then sine100 else p.sineTable).getD i 0#8).toNat

/-- Triangle (R126): `quant(|255 - 510 * i / N|)`, the numerator taken over `N`. -/
def triangleSample (p : Params) (i : Nat) : Nat :=
  let num := ((255 * p.n : Int) - 510 * i).natAbs
  match p.triQuant with
  | .floor => num / p.n
  | .round => roundTie p.roundTie num p.n

/-- Sawtooth (R125): `round_tie(255 * i / N)`. -/
def sawtoothSample (p : Params) (i : Nat) : Nat := roundTie p.roundTie (255 * i) p.n

/-- `K = ceil(N / 20)`, the number of steps in a cycle (R127). -/
def stairSteps (p : Params) : Nat := (p.n + stairStep - 1) / stairStep

/-- Staircase (R127): `floor(255 * k / (K - 1))` with `k = i div 20`, and 0 when `K = 1`. -/
def staircaseSample (p : Params) (i : Nat) : Nat :=
  if 2 ≤ stairSteps p then 255 * (i / stairStep) / (stairSteps p - 1) else 0

/-- Square at duty `D` percent (R128): `0xFF` for the first `floor(D * N / 100)` samples. -/
def squareSample (p : Params) (duty i : Nat) : Nat := if i < duty * p.n / 100 then 255 else 0

/-- `table(s)[i]` for `s` in 0..12 (R121). -/
def tableSample (p : Params) (s i : Nat) : Nat :=
  match s with
  | 0 => sineSample p i
  | 1 => triangleSample p i
  | 2 => sawtoothSample p i
  | 3 => staircaseSample p i
  | k + 4 => squareSample p (10 * (k + 1)) i

/-- A sample as the byte stored for it (R120: values are in 0..255). -/
def tableByte (p : Params) (s i : Nat) : Byte := BitVec.ofNat 8 (tableSample p s i)

/-- Word `w` of the PackedTable of shape `s` (R99, R130). -/
def packedWord (p : Params) (s w : Nat) : Word :=
  pack4 (tableByte p s (4 * w)) (tableByte p s (4 * w + 1)) (tableByte p s (4 * w + 2)) (tableByte p s (4 * w + 3))

/-- The PackedTable of shape `s`. -/
def packedTable (p : Params) (s : Nat) : List Word := (List.range p.words).map (packedWord p s)

/-- Generating shape `s` (R130): its `W` words into `SHAPE_MEM[s]`, then `gen_done[s] <- 1`. -/
def State.generate (s : State) (shape : Nat) : State :=
  let s1 := s.putWords (shapeBase shape) (packedTable s.params shape)
  { s1 with genDone := s1.genDone ||| (1#13 <<< shape) }

/-- `GEN s` (R131). -/
def execGen (shape : Nat) (s : State) : Result State :=
  if s.started ∨ 12 < shape then .next (s.refuseCmd .illegalCmd)
  else .next (s.generate shape).finish

/-- `GENALL`, step 0 (R132). -/
def genallBegin (s : State) : Result State :=
  if s.started then .next (s.refuseCmd .illegalCmd)
  else .next { s with seqIdx := 0#9, seqPhase := .genLoop }

/-- `GENALL`, each later step (R132): one whole table. -/
def genallStep (s : State) : Result State :=
  let shape := s.seqIdx.toNat
  if 12 < shape then .fault .sequencerIndex
  else
    let s1 := s.generate shape
    if shape = 12 then .next s1.finish else .next { s1 with seqIdx := BitVec.ofNat 9 (shape + 1) }

/-- `GENALL` (R132): the step its phase names. -/
def execGenall (s : State) : Result State :=
  match s.seqPhase with
  | .genLoop => genallStep s
  | .idle | .exec | .wvQuiesce | .wvCopy | .wvResume => genallBegin s

end Sys2Proof.Machine
end

