-- ==== Sys2Proof/Machine/TransferEngine.lean ====
section
/-! DEFINITION. spec/43_transfer_engine.md: the channel machine (R191 to R196), the two configurations (R197, R198)
and the command `START` (R199). -/

namespace Sys2Proof.Machine

/-- `pace_ok(X)` (R191). -/
def State.paceOk (s : State) (x : Chan) : Bool := !(s.chan x).ctrl.pace || decide (s.txq.length < s.params.qdepth)

/-- Channel `X` has its transfer step enabled (R191). -/
def State.chanReady (s : State) (x : Chan) : Bool :=
  (s.chan x).ctrl.en && (s.chan x).ctrl.busy && decide ((s.chan x).transCount ≠ 0#32) && s.paceOk x

/-- Channel `X` has the step `chan_empty` enabled (R196). -/
def State.chanEmptyReady (s : State) (x : Chan) : Bool :=
  (s.chan x).ctrl.en && (s.chan x).ctrl.busy && decide ((s.chan x).transCount = 0#32)

/-- The end of a run (R192, R195, R196): `BUSY <- 0`, and the other channel is triggered when `CHAIN_EN = 1`. -/
def State.completeRun (s : State) (x : Chan) : State :=
  let c := s.chan x
  let s1 := s.setChan x { c with ctrl := { c.ctrl with busy := false } }
  if c.ctrl.chainEn then s1.trigger x.other else s1

/-- A descriptor after one transfer (R192): addresses advance by 4 modulo 2^32 where their `INCR` bit is set, the
count goes down by 1. -/
def Channel.advance (c : Channel) : Channel :=
  { c with readAddr := if c.ctrl.incrRead then c.readAddr + 4#32 else c.readAddr,
           writeAddr := if c.ctrl.incrWrite then c.writeAddr + 4#32 else c.writeAddr,
           transCount := c.transCount - 1#32 }

/-- The load and the store of a transfer (R192): the read precedes the write (R70). -/
def State.moveWord (s : State) (x : Chan) : State :=
  let r := s.dmaRead (s.chan x).readAddr
  r.2.dmaWrite (r.2.chan x).writeAddr r.1

/-- `chan_step(X)` (R192): load, store, advance, and completion when the count reaches 0. The increments act on the
registers as the store left them. -/
def State.chanStep (s : State) (x : Chan) : State :=
  let s1 := s.moveWord x
  let s2 := s1.setChan x (s1.chan x).advance
  if (s2.chan x).transCount = 0#32 then s2.completeRun x else s2

/-- `chan_empty(X)` (R196). -/
def State.chanEmpty (s : State) (x : Chan) : State := s.completeRun x

/-- Channel `X`'s move: whichever of its two steps is enabled; none changes nothing (R191, R203). -/
def State.chanMove (s : State) (x : Chan) : State :=
  if s.chanReady x then s.chanStep x else if s.chanEmptyReady x then s.chanEmpty x else s

/-- Channel A as `START` configures it (R197, R199), before its trigger. -/
def channelA (p : Params) : Channel :=
  { readAddr := BitVec.ofNat 32 activeBase, writeAddr := BitVec.ofNat 32 txqAddr, transCount := 0#32,
    ctrl := decodeCtrl (encodeCtrl true true false true true), countReload := BitVec.ofNat 32 p.words }

/-- Channel B as `START` configures it (R198, R199). -/
def channelB : Channel :=
  { readAddr := BitVec.ofNat 32 litAddr, writeAddr := BitVec.ofNat 32 aReadAddrAddr, transCount := 0#32,
    ctrl := decodeCtrl (encodeCtrl true false false false true), countReload := 1#32 }

/-- The checks of `START` that raise (R199): `E_NO_TABLE` and `E_NO_DIV`, both when both hold (R273). -/
def State.startChecks (s : State) : State :=
  let s1 := if s.shapeSel = noShape then s.raise .noTable else s
  if s.divValid then s1 else s1.raise .noDiv

/-- The effect of a successful `START` (R199). -/
def State.startEngine (s : State) : State :=
  let s1 := s.putWord litAddr (BitVec.ofNat 32 activeBase)
  { s1 with chA := channelA s1.params, chB := channelB, started := true, bsuEn := true }.trigger .a

/-- `START` (R199). -/
def execStart (s : State) : Result State :=
  if s.started then .next (s.refuseCmd .restart)
  else if s.startChecks.hasConfigErr then .next s.startChecks.finish
  else .next s.startChecks.startEngine.finish

end Sys2Proof.Machine
end

