-- ==== Sys2Proof/Machine/Dispatch.lean ====
section
/-! DEFINITION. One arm per instruction: a command's sequencer step (spec/45_host_interface.md R246) or a host
transaction (R242, R243). -/

namespace Sys2Proof.Machine

def exec (i : Instr) (s : State) : Host.Outcome State Fault Refusal :=
  match i with
  | .nop => Sys2Proof.Machine.execNop s
  | .gen shape => Sys2Proof.Machine.execGen shape s
  | .genall => Sys2Proof.Machine.execGenall s
  | .setf imm => Sys2Proof.Machine.execSetf imm s
  | .fdelta dir mag => Sys2Proof.Machine.execFdelta dir mag s
  | .mdelta dir => Sys2Proof.Machine.execMdelta dir s
  | .applydiv => Sys2Proof.Machine.execApplydiv s
  | .quiesce => Sys2Proof.Machine.execQuiesce s
  | .resume => Sys2Proof.Machine.execResume s
  | .wave shape => Sys2Proof.Machine.execWave shape s
  | .start => Sys2Proof.Machine.execStart s
  | .rd addr => Sys2Proof.Machine.execRd addr s
  | .wr addr data => Sys2Proof.Machine.execWr addr data s

end Sys2Proof.Machine
end

