-- ==== Sys2Proof/Machine/Agents.lean ====
section
/-! DEFINITION. The moves: the host's transaction, the sequencer's step (spec/45_host_interface.md R246), the
reference cycle (spec/70_reset_and_hazards.md R305) and reset (R290). -/

namespace Sys2Proof.Machine

/-- The host's move (R241): the transaction it presents, decoded (R91) and performed. -/
def hostMove (t : BusTxn) (s : State) : Result State := exec (decodeBus t) s

/-- The sequencer's move (R246). It has a step exactly when `seq_phase` is not `IDLE`; in `EXEC` it decodes `cmd_reg`
and performs the command's step 0, an illegal word raising `E_ILLEGAL_CMD` (spec/30_encoding.md R96); in the other
phases it performs the step the phase names, the shape of a `WAVE` being `cmd_reg[3:0]` (R224). -/
def seqMove (s : State) : Result State :=
  match s.seqPhase with
  | .idle => .next s
  | .exec =>
    match decodeCmd s.cmdReg with
    | .ok i => exec i s
    | .error _ => .next (s.refuseCmd .illegalCmd)
  | .genLoop => exec .genall s
  | .wvQuiesce | .wvCopy | .wvResume => exec (.wave (shapeField s.cmdReg)) s

/-- A table-generation step of `GENALL` occupies `T_GEN` cycles and acts in the last of them (R305): in the others the
sequencer waits. -/
def State.seqWaits (s : State) : Bool := decide (s.seqPhase = .genLoop) && decide (s.genWait + 1 < s.params.tGen)

/-- The sequencer in a clocked cycle (R305): a cycle of waiting, or its step. -/
def seqClocked (s : State) : Result State :=
  if s.seqWaits then .next { s with genWait := s.genWait + 1 } else seqMove { s with genWait := 0 }

/-- The channel that has the DMA master in a clocked cycle (R305): Channel B if it has a step, otherwise Channel A. -/
def State.dmaChannel (s : State) : Chan := if s.chanReady .b || s.chanEmptyReady .b then .b else .a

/-- The DMA master in a clocked cycle (R305). -/
def State.dmaMove (s : State) : State := s.chanMove s.dmaChannel

/-- Stage 1 of a cycle (R305): the host's transaction, if it presents one. -/
def cycleHost (t : Option BusTxn) (s : State) : Result State :=
  match t with
  | none => .next s
  | some txn => hostMove txn s

/-- Stages 1 and 2 of a cycle (R305): the host, then SEQ if `seq_phase` was not `IDLE` at the start of the cycle. -/
def cycleFront (t : Option BusTxn) (s : State) : Result State :=
  match cycleHost t s with
  | .next s1 => if s.seqPhase = .idle then .next s1 else seqClocked s1
  | .fault f => .fault f
  | .refused r => .refused r

/-- One cycle of the reference schedule (R305): the host, the sequencer, then the DMA master, then the prescaler and
the BSU. -/
def cycleMove (t : Option BusTxn) (s : State) : Result State :=
  match cycleFront t s with
  | .next s2 => .next s2.dmaMove.clockEdge
  | .fault f => .fault f
  | .refused r => .refused r

/-- A clock edge with `rst = 1` (R290): every state element takes its value of R45. The parameters and the model's own
bookkeeping stay; memory contents are unspecified again (R291, U3). -/
def State.afterReset (s : State) : State :=
  { State.ofParams s.params with agenda := s.agenda, freeCtr := s.freeCtr, resets := s.resets + 1 }

/-- One move of the block or its environment (R7, R8). -/
def runMove (m : Move) (s : State) : Result State :=
  match m with
  | .host t => hostMove t s
  | .seq => seqMove s
  | .cha => .next (s.chanMove .a)
  | .chb => .next (s.chanMove .b)
  | .bsu => .next s.bsuMove
  | .clock => .next s.clockEdge
  | .cycle t => cycleMove t s
  | .rst => .next s.afterReset

/-- Between transactions `bus_ack` and `bus_err` are 0 (R240); `bus_rdata`, valid only with `bus_ack`, is held. -/
def State.busIdle (s : State) : State := { s with busAck := false, busErr := false }

/-- The next move and what is left to choose (U4): the head of the agenda, or the scheduler's free choice. -/
def State.nextMove (s : State) : Move × State :=
  match s.agenda with
  | m :: rest => (m, { s with agenda := rest })
  | [] => (Config.freeMove s.freeCtr, { s with freeCtr := s.freeCtr + 1 })

end Sys2Proof.Machine
end

