-- ==== Sys2Proof/Machine/Step.lean ====
section
/-! DEFINITION. One step of the machine: one atomic move of one agent or of the environment (spec/00_scope.md R8),
and the host's placing of an instruction. -/

namespace Sys2Proof.Machine

/-- One atomic step (R8). -/
def step (s : State) : Host.Outcome State Fault Refusal := runMove s.nextMove.1 s.nextMove.2.busIdle

/-- `s` with an opcode-table word where the next step takes its instruction: a command word as an accepted command
(R244) whose sequencer step comes next, a bus transaction as the host's next move. -/
def State.withFetchWord (s : State) (nbits w : Nat) : State :=
  let bits := w % 2 ^ nbits
  if nbits ≤ 32 then
    { s with cmdReg := BitVec.ofNat 32 bits, cmdBusy := true, seqPhase := .exec, agenda := .seq :: s.agenda }
  else { s with agenda := .host (busTxnOfBits bits) :: s.agenda }

end Sys2Proof.Machine
end

