-- ==== Sys2Proof/Safety.lean ====
section
/-! DEFINITION. What holds of every state the block reaches: the ranges of its registers, the sequencer, the transfer
engine (spec/43_transfer_engine.md R201, R202), the tables and the active buffer (spec/44_swap_arbiter.md R227), the
order of the output (spec/42_bit_streaming_unit.md R179); and the terms the claims use. -/

namespace Sys2Proof

/-- One atomic step of one of the five agents (spec/00_scope.md R7, R8): no clock edge and no reset. -/
def Move.isAgentStep : Move → Bool
  | .host _ | .seq | .cha | .chb | .bsu => true
  | .clock | .cycle _ | .rst => false

/-- A move in which the block runs by itself: no host transaction and no reset. -/
def Move.isAutonomous : Move → Bool
  | .seq | .cha | .chb | .bsu | .clock | .cycle none => true
  | .host _ | .cycle (some _) | .rst => false

/-- `bus_req` (R240): the move presents a host transaction. -/
def Move.busReq : Move → Bool
  | .host _ | .cycle (some _) => true
  | .seq | .cha | .chb | .bsu | .clock | .cycle none | .rst => false

/-- The parameter conditions of R11. `F_MIN` and `F_MAX` are constants. -/
def Params.inScope (p : Params) : Prop :=
  0 < p.n ∧ p.n % 4 = 0 ∧ p.n ≤ 1024 ∧ 1 ≤ p.qdepth ∧ p.qdepth ≤ 16 ∧ 1 ≤ p.cHz ∧ 20 ≤ p.fInit ∧
    p.fInit ≤ 1000000 ∧ 1 ≤ p.divMax ∧ p.divMax ≤ 65535

/-- What other rules ask of the parameters (assumption log 11): the widths of `CLKHZ` (R30) and `MULT_IDX` (R27), one
multiplier for every index, one sine sample for every index where R124 gives none (R123), `T_GEN >= 1` (R10). -/
def Params.complete (p : Params) : Prop :=
  p.cHz < 2 ^ 32 ∧ p.multMax ≤ 7 ∧ p.mult.length = p.multMax + 1 ∧ (p.n = 100 ∨ p.sineTable.length = p.n) ∧ 1 ≤ p.tGen

end Sys2Proof

namespace Sys2Proof.Machine

/-- The five agents of R7. -/
inductive Agent where
  | host
  | seq
  | cha
  | chb
  | bsu
deriving DecidableEq, Repr

/-- The agent has an enabled step, while the host presents a transaction or not (R241, R246, R191, R196, R172). The
host's step is enabled "at a cycle where `bus_req = 1`" (R241). -/
def State.enabled (s : State) (busReq : Bool) : Agent → Bool
  | .host => busReq
  | .seq => decide (s.seqPhase ≠ .idle)
  | .cha => s.chanReady .a || s.chanEmptyReady .a
  | .chb => s.chanReady .b || s.chanEmptyReady .b
  | .bsu => s.bsuEnabled

/-- The state a stage of a cycle hands on; `s` where the stage stops. -/
def stateAfter (s : State) : Result State → State
  | .next t => t
  | .fault _ | .refused _ => s

/-- One cycle of the reference schedule from `s` gives the agent its turn (R305): the host when it presents a
transaction; the sequencer when it was not idle at the start and does not wait in a table-generation step; the channel
that has the DMA master; the BSU when the cycle's edge is a tick. -/
def cycleSchedules (t : Option BusTxn) (s : State) : Agent → Bool
  | .host => t.isSome
  | .seq => decide (s.seqPhase ≠ .idle) && !(stateAfter s (cycleHost t s)).seqWaits
  | .cha => decide ((stateAfter s (cycleFront t s)).dmaChannel = .a)
  | .chb => decide ((stateAfter s (cycleFront t s)).dmaChannel = .b)
  | .bsu => (stateAfter s (cycleFront t s)).dmaMove.atTick

/-- The move, made in state `s`, gives the agent its turn: an atomic step its own agent (R8), a clock edge the BSU when
it is a tick (R176), a cycle those of R305. -/
def State.givesTurn (s : State) (m : Move) (x : Agent) : Bool :=
  match m with
  | .host _ => decide (x = .host)
  | .seq => decide (x = .seq)
  | .cha => decide (x = .cha)
  | .chb => decide (x = .chb)
  | .bsu => decide (x = .bsu)
  | .clock => decide (x = .bsu) && s.atTick
  | .cycle t => cycleSchedules t s x
  | .rst => false

/-- An infinite run: the states that a schedule passes through, each move made as `step` makes it. -/
def IsRun (schedule : Nat → Move) (trajectory : Nat → State) : Prop :=
  ∀ k, runMove (schedule k) (trajectory k).busIdle = .next (trajectory (k + 1))

/-- Weak fairness of a schedule along its run (R8): every one of the five agents whose step stays enabled is eventually
scheduled. -/
def WeaklyFair (schedule : Nat → Move) (trajectory : Nat → State) : Prop :=
  ∀ (x : Agent) (k : Nat), (∀ j, k ≤ j → (trajectory j).enabled (schedule j).busReq x = true) →
    ∃ j, k ≤ j ∧ (trajectory j).busIdle.givesTurn (schedule j) x = true

/-- `k` steps of the machine, stopping at the first fault or refusal; it is `core.run` (`runSteps_eq_core_run`). -/
def runSteps : Nat → State → Result State
  | 0, s => .next s
  | k + 1, s =>
    match step s with
    | .next t => runSteps k t
    | .fault f => .fault f
    | .refused r => .refused r

/-- How many more steps the sequencer takes to finish the command in progress (R246): 1 for a single-step command, 14
for `GENALL`, `W + 3` for `WAVE`. -/
def State.seqRemaining (s : State) : Nat :=
  match s.seqPhase with
  | .idle => 0
  | .exec =>
    match decodeCmd s.cmdReg with
    | .ok .genall => 14
    | .ok (.wave _) => s.params.words + 3
    | _ => 1
  | .genLoop => 13 - s.seqIdx.toNat
  | .wvQuiesce => s.params.words + 2
  | .wvCopy => s.params.words - s.seqIdx.toNat + 1
  | .wvResume => 1

/-- An address of table memory or `LIT` (R38, R61). -/
def memoryAddress (p : Params) (a : Nat) : Prop :=
  (litAddr ≤ a ∧ a < litAddr + 4) ∨ (∃ sel, sel ≤ 12 ∧ shapeBase sel ≤ a ∧ a < shapeBase sel + 4 * p.words) ∨
    (activeBase ≤ a ∧ a < activeBase + 4 * p.words)

/-- The address of a word of table memory or `LIT` (R61). -/
def memoryWordAddress (p : Params) (a : Nat) : Prop :=
  a = 0x0300 ∨ (∃ sel w, sel ≤ 12 ∧ w < p.n / 4 ∧ a = 0x4000 + 0x400 * sel + 4 * w) ∨
    (∃ w, w < p.n / 4 ∧ a = 0x8000 + 4 * w)

/-- `x` is `round_tie(num / den)` (R122): an integer nearest to the quotient, and at an exact half the even one or the
upper one, as `ROUND_TIE` says. -/
def IsRounded (tie : RoundTie) (num den x : Nat) : Prop :=
  |2 * ((den * x : ℤ) - num)| ≤ den ∧
    (2 * (num % den) = den → match tie with
      | .halfEven => x % 2 = 0
      | .halfUp => x = num / den + 1)

/-- The bytes of a word sequence in the order the BSU presents them (R172, R179). -/
def bytesOf (ws : List Word) : List Byte := ws.flatMap unpack4

/-- `ACTIVE` holds the table of shape `sel` in its first `k` words. -/
def State.activeHolds (s : State) (sel k : Nat) : Prop :=
  ∀ w, w < k → s.wordAt (activeBase + 4 * w) = packedWord s.params sel w

/-! ## The invariant -/

/-- The register ranges: R11, R26, R27, R28, R29, R36, R171, and the enables (R178, R264). -/
structure RegistersInRange (s : State) : Prop where
  params_legal : s.params.legal = true
  freq_low : 20 ≤ s.freq.toNat
  freq_high : s.freq.toNat ≤ 1000000
  mult_range : s.multIdx.toNat ≤ s.params.multMax
  div_range : s.divValid = true → 1 ≤ s.divReg.toNat ∧ s.divReg.toNat ≤ s.params.divMax
  shape_range : s.shapeSel = noShape ∨ s.shapeSel.toNat ≤ 12
  shape_has_div : s.shapeSel ≠ noShape → s.divValid = true
  osrCnt_range : s.osrCnt.toNat ≤ 3
  txq_range : s.txq.length ≤ s.params.qdepth
  bsu_started : s.bsuEn = true → s.started = true

/-- The sequencer (R37, R132, R224): `cmd_busy = 0` exactly when idle; a later phase belongs to the command in
`cmd_reg`; the BSU is disabled from the quiesce to the resume (R231). -/
structure SequencerConsistent (s : State) : Prop where
  busy_iff : s.cmdBusy = false ↔ s.seqPhase = .idle
  gen_loop : s.seqPhase = .genLoop →
    decodeCmd s.cmdReg = .ok .genall ∧ s.seqIdx.toNat ≤ 12 ∧ s.started = false
  wave : s.seqPhase = .wvQuiesce ∨ s.seqPhase = .wvCopy ∨ s.seqPhase = .wvResume →
    ∃ sel, sel ≤ 12 ∧ decodeCmd s.cmdReg = .ok (.wave sel) ∧ s.generated sel = true ∧ s.divValid = true
  copy_index : s.seqPhase = .wvCopy → s.seqIdx.toNat < s.params.words
  quiesced : s.seqPhase = .wvCopy ∨ s.seqPhase = .wvResume → s.bsuEn = false

/-- Channel A in a run: its address and count (R202). -/
def State.aRunning (s : State) : Prop :=
  s.chA.ctrl.busy = true ∧ s.chB.ctrl.busy = false ∧ 1 ≤ s.chA.transCount.toNat ∧ s.chB.transCount = 0#32

/-- Channel B in its run (R201): Channel A's lap is complete. -/
def State.bRunning (s : State) : Prop :=
  s.chA.ctrl.busy = false ∧ s.chB.ctrl.busy = true ∧ s.chA.transCount = 0#32 ∧ s.chB.transCount = 1#32

/-- The engine after a successful `START` (R197, R198, R200 to R202, R206). -/
structure EngineRunning (s : State) : Prop where
  a_write : s.chA.writeAddr = BitVec.ofNat 32 txqAddr
  a_reload : s.chA.countReload = BitVec.ofNat 32 s.params.words
  a_ctrl : s.chA.ctrl = { decodeCtrl 0x0000001B#32 with busy := s.chA.ctrl.busy }
  a_count : s.chA.transCount.toNat ≤ s.params.words
  a_read : s.chA.readAddr.toNat = activeBase + 4 * (s.params.words - s.chA.transCount.toNat)
  b_read : s.chB.readAddr = BitVec.ofNat 32 litAddr
  b_write : s.chB.writeAddr = BitVec.ofNat 32 aReadAddrAddr
  b_reload : s.chB.countReload = 1#32
  b_ctrl : s.chB.ctrl = { decodeCtrl 0x00000011#32 with busy := s.chB.ctrl.busy }
  one_busy : s.aRunning ∨ s.bRunning
  literal : s.wordAt litAddr = BitVec.ofNat 32 activeBase
  loaded : s.shapeSel ≠ noShape
  lap_position : s.pushTrace.length % s.params.words = (s.params.words - s.chA.transCount.toNat) % s.params.words

/-- The engine before `START`: both descriptors at their reset values, nothing pushed, nothing presented (R45,
R280). -/
structure EngineIdle (s : State) : Prop where
  a_reset : s.chA = Channel.reset
  b_reset : s.chB = Channel.reset
  txq_empty : s.txq = []
  osr_empty : s.osrCnt = 0#3
  nothing_pushed : s.pushTrace = []

/-- The engine in every state (R202, R280). -/
def EngineConsistent (s : State) : Prop :=
  (s.started = true → EngineRunning s) ∧ (s.started = false → EngineIdle s)

/-- Memory (R130, R222, R227): canonical, confined to the tables and `LIT`; every generated table is in its slot; the
active buffer holds the selected table except while a copy is in progress, when it holds the new one up to
`seq_idx`. -/
structure MemoryConsistent (s : State) : Prop where
  canonical : Memory.wf s.mem
  confined : ∀ c, c ∈ s.mem → memoryAddress s.params c.1
  tables : ∀ sel, sel ≤ 12 → s.generated sel = true → ∀ w, w < s.params.words →
    s.wordAt (shapeBase sel + 4 * w) = packedWord s.params sel w
  active : s.shapeSel ≠ noShape → s.seqPhase ≠ .wvCopy → s.activeHolds s.shapeSel.toNat s.params.words
  copied : s.seqPhase = .wvCopy → ∀ sel, decodeCmd s.cmdReg = .ok (.wave sel) → s.activeHolds sel s.seqIdx.toNat

/-- The output (R179): what was pushed is what was presented, then what is left in `osr`, then the queue. -/
def StreamOrdered (s : State) : Prop :=
  bytesOf s.pushTrace = s.outTrace ++ (unpack4 s.osr).take s.osrCnt.toNat ++ bytesOf s.txq

/-- The invariant of the block. -/
structure BlockInvariant (s : State) : Prop where
  registers : RegistersInRange s
  sequencer : SequencerConsistent s
  engine : EngineConsistent s
  memory : MemoryConsistent s
  stream : StreamOrdered s

/-- What keeps the clocked stream gapless (R305): when Channel B has the DMA master's next step and the queue is empty,
`osr` still holds a byte. -/
def QueueReady (s : State) : Prop :=
  s.started = true → s.txq = [] → s.chB.ctrl.busy = true → s.osrCnt ≠ 0#3

end Sys2Proof.Machine
end

