-- ==== Sys2Proof/Certificates/Slice0/Obligations.lean ====
section
/-! DEFINITION. The statements about the block, from the numbered rules of spec/. Commands are stated as the opcode
table encodes them and as the sequencer performs them: the next state is written out, so that whatever is not named
is unchanged. -/

open Sys2Proof Sys2Proof.Machine

/-! ## Encoding (spec/30_encoding.md) -/

/-- R91 to R94: every well-formed instruction, with every operand its encoding admits, decodes from its own
encoding. -/
def Obligations.WellFormedInstructionsRoundTrip : Prop :=
  ∀ i : Instr, i.wellFormed = true → decode (encode i) = .ok i

/-- R92, R96: a command word that decodes is exactly the encoding of the instruction read from it, and that
instruction is well formed: no bit is ignored. -/
def Obligations.LegalCommandWordsAreEncodings : Prop :=
  ∀ (w : Word) (i : Instr), decodeCmd w = .ok i → i.wellFormed = true ∧ encode i = .cmd w

/-- R95: every word matches exactly one row of R94's map, the row of the instruction the decoder reads, or none, and
then the decoder refuses it. -/
def Obligations.DecoderMatchesOpcodeMap : Prop :=
  ∀ w : Word, (opcodeRows.filter (fun r => r.matchesWord w)).map OpcodeRow.mnemonic =
    match decodeCmd w with
    | .ok i => [i.mnemonic]
    | .error _ => []

/-- V10 of spec/95_test_vectors.md: words written out from the encodings decode to what they stand for. -/
def Obligations.SampleWordsDecode : Prop :=
  decodeCmd 0x00000000#32 = .ok .nop ∧ decodeCmd 0x1000000C#32 = .ok (.gen 12) ∧
    decodeCmd 0x20000000#32 = .ok .genall ∧ decodeCmd 0x3FFFFFFF#32 = .ok (.setf (-1)) ∧
    decodeCmd 0x48000014#32 = .ok (.fdelta .down 20) ∧ decodeCmd 0x58000000#32 = .ok (.mdelta .down) ∧
    decodeCmd 0x90000008#32 = .ok (.wave 8) ∧ decodeCmd 0xA0000000#32 = .ok .start ∧
    decodeCmd 0x98000000#32 = .error .mustBeZero ∧ decodeCmd 0xB0000000#32 = .error .reservedOpcode

/-- R97, R98, R63, R99: the control word is the five fields at bits 0 to 4, `decode_ctrl` reads them back and ignores
the rest, and the two words the block uses are `0x1B` and `0x11`, with bit 31 while the channel is busy; `pack4` places
its four bytes lowest first and `unpack4` is its inverse in both directions. -/
def Obligations.ControlAndPackedWordLayout : Prop :=
  (∀ en ir iw pc ch : Bool, encodeCtrl en ir iw pc ch =
      BitVec.ofNat 32 (en.toNat + 2 * ir.toNat + 4 * iw.toNat + 8 * pc.toNat + 16 * ch.toNat)) ∧
    (∀ (en ir iw pc ch : Bool) (w : Word), decodeCtrl (encodeCtrl en ir iw pc ch ||| (w <<< 5)) =
      { en := en, incrRead := ir, incrWrite := iw, pace := pc, chainEn := ch, busy := false }) ∧
    (∀ p : Params, ctrlWord (channelA p).ctrl = 0x0000001B#32 ∧
      ctrlWord { (channelA p).ctrl with busy := true } = 0x8000001B#32) ∧
    ctrlWord channelB.ctrl = 0x00000011#32 ∧ ctrlWord { channelB.ctrl with busy := true } = 0x80000011#32 ∧
  (∀ b0 b1 b2 b3 : Byte, (pack4 b0 b1 b2 b3).toNat =
      b0.toNat + 2 ^ 8 * b1.toNat + 2 ^ 16 * b2.toNat + 2 ^ 24 * b3.toNat) ∧
    (∀ b0 b1 b2 b3 : Byte, unpack4 (pack4 b0 b1 b2 b3) = [b0, b1, b2, b3]) ∧
    (∀ w : Word, pack4 (wordByte w 0) (wordByte w 1) (wordByte w 2) (wordByte w 3) = w)

/-! ## Steps run instructions (spec/45_host_interface.md R241, R246) -/

/-- R246: when the sequencer moves in `EXEC` and `cmd_reg` decodes, the step is the instruction's meaning, on the state
with that move taken and the bus outputs idle. -/
def Obligations.SequencerRunsDecodedCommand : Prop :=
  ∀ (s : State) (i : Instr) (rest : List Move), s.agenda = .seq :: rest → s.seqPhase = .exec →
    decodeCmd s.cmdReg = .ok i →
    step s = exec i { s with agenda := rest, busAck := false, busErr := false }

/-- R91, R241: when the host moves, the step is the meaning of the transaction it presents. -/
def Obligations.HostStepRunsTransaction : Prop :=
  ∀ (s : State) (a : BitVec 16) (d : Word) (rest : List Move),
    (s.agenda = .host ⟨false, a, d⟩ :: rest →
      step s = exec (.rd a) { s with agenda := rest, busAck := false, busErr := false }) ∧
    (s.agenda = .host ⟨true, a, d⟩ :: rest →
      step s = exec (.wr a d) { s with agenda := rest, busAck := false, busErr := false })

/-- R246: in a later phase the sequencer's step is the one that phase names, for the shape in `cmd_reg[3:0]`. -/
def Obligations.LaterPhasesContinueTheirCommand : Prop :=
  ∀ (s : State) (rest : List Move), s.agenda = .seq :: rest →
    (s.seqPhase = .genLoop → step s = exec .genall { s with agenda := rest, busAck := false, busErr := false }) ∧
    (s.seqPhase = .wvQuiesce ∨ s.seqPhase = .wvCopy ∨ s.seqPhase = .wvResume →
      step s = exec (.wave (s.cmdReg.toNat % 16)) { s with agenda := rest, busAck := false, busErr := false })

/-- R96, R265: a command word that matches no row does nothing but raise `E_ILLEGAL_CMD`, and completes. -/
def Obligations.IllegalWordOnlyRaisesFlag : Prop :=
  ∀ (s : State) (rest : List Move), s.agenda = .seq :: rest → s.seqPhase = .exec →
    (∀ r, r ∈ opcodeRows → r.matchesWord s.cmdReg = false) →
    ∃ t, step s = .next t ∧ (∀ e, t.hasErr e = (decide (e = .illegalCmd) || s.hasErr e)) ∧
      t = { s with agenda := rest, busAck := false, busErr := false, err := t.err, cmdBusy := false,
                   seqPhase := .idle }

/-! ## Commands -/

/-- R245. -/
def Obligations.NopOnlyCompletes : Prop :=
  decodeCmd 0x00000000#32 = .ok .nop ∧
    ∀ s : State, exec .nop s = .next { s with cmdBusy := false, seqPhase := .idle }

/-- R154: `FREQ` takes the signed 28-bit operand clamped to 20..1_000_000, and nothing else changes. -/
def Obligations.SetfClampsFrequency : Prop :=
  (∀ w : Word, w &&& 0xF0000000#32 = 0x30000000#32 → decodeCmd w = .ok (.setf (w.extractLsb' 0 28).toInt)) ∧
    ∀ (imm : Int) (s : State), ∃ t, exec (.setf imm) s = .next t ∧
      (t.freq.toNat : Int) = (if imm < 20 then 20 else if 1000000 < imm then 1000000 else imm) ∧
      t = { s with freq := t.freq, cmdBusy := false, seqPhase := .idle }

/-- R155: `FREQ` moves by `mag * mult(MULT_IDX)` over the integers and is clamped; nothing else changes. -/
def Obligations.FdeltaStepsFrequency : Prop :=
  (∀ w : Word, w &&& 0xF7FF0000#32 = 0x40000000#32 →
      decodeCmd w = .ok (.fdelta (if w.getLsbD 27 then .down else .up) (w.toNat % 65536))) ∧
    ∀ (dir : Direction) (mag m : Nat) (f : Int) (s : State), s.params.mult[s.multIdx.toNat]? = some m →
      f = (match dir with
        | .up => (s.freq.toNat : Int) + mag * m
        | .down => (s.freq.toNat : Int) - mag * m) →
      ∃ t, exec (.fdelta dir mag) s = .next t ∧
        (t.freq.toNat : Int) = (if f < 20 then 20 else if 1000000 < f then 1000000 else f) ∧
        t = { s with freq := t.freq, cmdBusy := false, seqPhase := .idle }

/-- R156: `MULT_IDX` moves by one and is held at 0 and `MULT_MAX`; nothing else changes. -/
def Obligations.MdeltaStepsIndex : Prop :=
  (∀ w : Word, w &&& 0xF7FFFFFF#32 = 0x50000000#32 →
      decodeCmd w = .ok (.mdelta (if w.getLsbD 27 then .down else .up))) ∧
    ∀ (dir : Direction) (s : State), s.params.multMax ≤ 7 → ∃ t, exec (.mdelta dir) s = .next t ∧
      t.multIdx.toNat = (match dir with
        | .up => min (s.multIdx.toNat + 1) s.params.multMax
        | .down => s.multIdx.toNat - 1) ∧
      t = { s with multIdx := t.multIdx, cmdBusy := false, seqPhase := .idle }

/-- R157, R262: with `d = C_HZ div (FREQ * N)`, a legal `d` goes to `DIV` and sets `DIV_VALID`; otherwise only
`E_DIV_RANGE` is raised. -/
def Obligations.ApplydivWritesDivisor : Prop :=
  decodeCmd 0x60000000#32 = .ok .applydiv ∧
    ∀ (d : Nat) (s : State), d = s.params.cHz / (s.freq.toNat * s.params.n) → s.params.divMax ≤ 65535 →
      ∃ t, exec .applydiv s = .next t ∧
        (1 ≤ d ∧ d ≤ s.params.divMax → t.divReg.toNat = d ∧
          t = { s with divReg := t.divReg, divValid := true, cmdBusy := false, seqPhase := .idle }) ∧
        (d < 1 ∨ s.params.divMax < d → (∀ e, t.hasErr e = (decide (e = .divRange) || s.hasErr e)) ∧
          t = { s with err := t.err, cmdBusy := false, seqPhase := .idle })

/-- R177, R178: `QUIESCE` takes `BSU_EN` to 0, `RESUME` to `STARTED`, and neither changes anything else. -/
def Obligations.QuiesceAndResumeSetConsumption : Prop :=
  (decodeCmd 0x70000000#32 = .ok .quiesce ∧
    ∀ s : State, exec .quiesce s = .next { s with bsuEn := false, cmdBusy := false, seqPhase := .idle }) ∧
  decodeCmd 0x80000000#32 = .ok .resume ∧
    ∀ s : State, exec .resume s = .next { s with bsuEn := s.started, cmdBusy := false, seqPhase := .idle }

/-- R131: before `START`, `GEN s` writes the `W` packed words of table `s` to `0x4000 + 0x400 * s` and sets
`gen_done[s]`; every other byte and register is unchanged. -/
def Obligations.GenWritesItsTable : Prop :=
  (∀ w : Word, w &&& 0xFFFFFFF0#32 = 0x10000000#32 → decodeCmd w = .ok (.gen (w.toNat % 16))) ∧
    ∀ (sel : Nat) (s : State), s.started = false → sel ≤ 12 → ∃ t, exec (.gen sel) s = .next t ∧
      (∀ w, w < s.params.n / 4 → t.wordAt (0x4000 + 0x400 * sel + 4 * w) =
        pack4 (tableByte s.params sel (4 * w)) (tableByte s.params sel (4 * w + 1))
          (tableByte s.params sel (4 * w + 2)) (tableByte s.params sel (4 * w + 3))) ∧
      (∀ a, a < 0x4000 + 0x400 * sel ∨ 0x4000 + 0x400 * sel + 4 * (s.params.n / 4) ≤ a → t.byteAt a = s.byteAt a) ∧
      (∀ i, t.generated i = (decide (i = sel) || s.generated i)) ∧
      t = { s with mem := t.mem, genDone := t.genDone, cmdBusy := false, seqPhase := .idle }

/-- R131, R265: once started, or for a shape above 12, `GEN s` only raises `E_ILLEGAL_CMD`. -/
def Obligations.GenRefusedOnlyRaisesFlag : Prop :=
  ∀ (sel : Nat) (s : State), s.started = true ∨ 12 < sel → ∃ t, exec (.gen sel) s = .next t ∧
    (∀ e, t.hasErr e = (decide (e = .illegalCmd) || s.hasErr e)) ∧
    t = { s with err := t.err, cmdBusy := false, seqPhase := .idle }

/-- R132: step 0 refuses once started and otherwise enters the loop at index 0. -/
def Obligations.GenallBeginsLoop : Prop :=
  decodeCmd 0x20000000#32 = .ok .genall ∧
    ∀ s : State, s.seqPhase = .exec →
      (s.started = false → exec .genall s = .next { s with seqIdx := 0#9, seqPhase := .genLoop }) ∧
      (s.started = true → ∃ t, exec .genall s = .next t ∧
        (∀ e, t.hasErr e = (decide (e = .illegalCmd) || s.hasErr e)) ∧
        t = { s with err := t.err, cmdBusy := false, seqPhase := .idle })

/-- R132: each loop step generates the table of its index, as `GEN` does, and goes on to the next index or, after 12,
completes. -/
def Obligations.GenallLoopGeneratesOneTable : Prop :=
  ∀ (k : Nat) (s : State), s.seqPhase = .genLoop → s.seqIdx.toNat = k → k ≤ 12 →
    ∃ t, exec .genall s = .next t ∧
      (∀ w, w < s.params.n / 4 → t.wordAt (0x4000 + 0x400 * k + 4 * w) =
        pack4 (tableByte s.params k (4 * w)) (tableByte s.params k (4 * w + 1))
          (tableByte s.params k (4 * w + 2)) (tableByte s.params k (4 * w + 3))) ∧
      (∀ a, a < 0x4000 + 0x400 * k ∨ 0x4000 + 0x400 * k + 4 * (s.params.n / 4) ≤ a → t.byteAt a = s.byteAt a) ∧
      (∀ i, t.generated i = (decide (i = k) || s.generated i)) ∧
      (k < 12 → t.seqIdx.toNat = k + 1 ∧ t = { s with mem := t.mem, genDone := t.genDone, seqIdx := t.seqIdx }) ∧
      (k = 12 → t = { s with mem := t.mem, genDone := t.genDone, cmdBusy := false, seqPhase := .idle })

/-- R132: "The end state equals that of `GEN 0`; ...; `GEN 12`" in every table word, every flag and every register
but `seq_idx`: fourteen sequencer steps of an accepted `GENALL` against thirteen `GEN` meanings in a row. -/
def Obligations.GenallEqualsThirteenGens : Prop :=
  ∀ s : State, s.started = false → s.seqPhase = .exec → s.cmdReg = 0x20000000#32 → s.busAck = false →
    s.busErr = false → s.agenda = List.replicate 14 Move.seq →
    ∃ t u : State, runSteps 14 s = .next t ∧
      (List.range 13).foldl
        (fun (o : Result State) (k : Nat) =>
          match o with
          | .next v => exec (.gen k) v
          | .fault f => .fault f
          | .refused r => .refused r)
        (.next s) = .next u ∧
      t = { u with seqIdx := t.seqIdx, agenda := [] }

/-- R224 step 0, R273: the shape is checked before the divisor; a legal swap re-applies the divisor and goes on to
quiesce, a refused one only raises its flag. -/
def Obligations.WaveChecksThenAppliesDivisor : Prop :=
  (∀ w : Word, w &&& 0xFFFFFFF0#32 = 0x90000000#32 → decodeCmd w = .ok (.wave (w.toNat % 16))) ∧
    ∀ (sel d : Nat) (s : State), s.seqPhase = .exec → d = s.params.cHz / (s.freq.toNat * s.params.n) →
      s.params.divMax ≤ 65535 → ∃ t, exec (.wave sel) s = .next t ∧
        (12 < sel ∨ s.generated sel = false → (∀ e, t.hasErr e = (decide (e = .illegalCmd) || s.hasErr e)) ∧
          t = { s with err := t.err, cmdBusy := false, seqPhase := .idle }) ∧
        (sel ≤ 12 → s.generated sel = true → d < 1 ∨ s.params.divMax < d →
          (∀ e, t.hasErr e = (decide (e = .divRange) || s.hasErr e)) ∧
          t = { s with err := t.err, cmdBusy := false, seqPhase := .idle }) ∧
        (sel ≤ 12 → s.generated sel = true → 1 ≤ d → d ≤ s.params.divMax → t.divReg.toNat = d ∧
          t = { s with divReg := t.divReg, divValid := true, seqPhase := .wvQuiesce })

/-- R224 steps 1 to `W+2`: the quiesce, each word's copy, and the resume. -/
def Obligations.WaveQuiescesCopiesResumes : Prop :=
  ∀ (sel : Nat) (s : State), sel ≤ 12 →
    (s.seqPhase = .wvQuiesce →
      exec (.wave sel) s = .next { s with bsuEn := false, seqIdx := 0#9, seqPhase := .wvCopy }) ∧
    (s.seqPhase = .wvCopy → s.seqIdx.toNat < s.params.n / 4 → s.params.n ≤ 1024 →
      ∃ t, exec (.wave sel) s = .next t ∧
        t.wordAt (0x8000 + 4 * s.seqIdx.toNat) = s.wordAt (0x4000 + 0x400 * sel + 4 * s.seqIdx.toNat) ∧
        (∀ a, a < 0x8000 + 4 * s.seqIdx.toNat ∨ 0x8000 + 4 * s.seqIdx.toNat + 4 ≤ a → t.byteAt a = s.byteAt a) ∧
        (s.seqIdx.toNat < s.params.n / 4 - 1 → t.seqIdx.toNat = s.seqIdx.toNat + 1 ∧
          t = { s with mem := t.mem, seqIdx := t.seqIdx }) ∧
        (s.seqIdx.toNat = s.params.n / 4 - 1 → t.shapeSel.toNat = sel ∧
          t = { s with mem := t.mem, shapeSel := t.shapeSel, seqPhase := .wvResume })) ∧
    (s.seqPhase = .wvResume →
      exec (.wave sel) s = .next { s with bsuEn := s.started, cmdBusy := false, seqPhase := .idle })

/-- R227: a `WAVE s` that passes its checks ends, after exactly `W + 3` sequencer steps interleaved in any way with
steps of the channels, the BSU and the host, with every word of `ACTIVE` equal to that of `SHAPE_MEM[s]`,
`SHAPE_SEL = s`, the divisor of the `FREQ` at step 0, and `bsu_en = STARTED`. -/
def Obligations.WaveSwapsUnderAnyInterleaving : Prop :=
  ∀ (s : State) (sel d : Nat) (before : List Move), BlockInvariant s → s.seqPhase = .exec →
    decodeCmd s.cmdReg = .ok (.wave sel) → sel ≤ 12 → s.generated sel = true →
    d = s.params.cHz / (s.freq.toNat * s.params.n) → 1 ≤ d → d ≤ s.params.divMax →
    (∀ m, m ∈ before → m.isAgentStep = true) → before.count .seq = s.params.n / 4 + 2 →
    s.agenda = before ++ [.seq] →
    ∃ t : State, runSteps (before.length + 1) s = .next t ∧ t.cmdBusy = false ∧
      (∀ w, w < s.params.n / 4 → t.wordAt (0x8000 + 4 * w) = s.wordAt (0x4000 + 0x400 * sel + 4 * w) ∧
        t.wordAt (0x4000 + 0x400 * sel + 4 * w) = s.wordAt (0x4000 + 0x400 * sel + 4 * w)) ∧
      t.shapeSel.toNat = sel ∧ t.divReg.toNat = d ∧ t.divValid = true ∧ t.started = s.started ∧
      t.bsuEn = s.started

/-- R199 with R197 and R198: a `START` whose preconditions hold writes `LIT` and both descriptors, sets `STARTED` and
`BSU_EN` and triggers Channel A; every other byte and register is unchanged. -/
def Obligations.StartConfiguresEngine : Prop :=
  decodeCmd 0xA0000000#32 = .ok .start ∧
    ∀ s : State, s.started = false → s.shapeSel ≠ 15#4 → s.divValid = true → s.hasErr .divRange = false →
      s.hasErr .noTable = false → s.hasErr .noDiv = false →
      ∃ t, exec .start s = .next t ∧ t.wordAt 0x300 = 0x00008000#32 ∧
        (∀ a, a < 0x300 ∨ 0x304 ≤ a → t.byteAt a = s.byteAt a) ∧
        t.chA.readAddr = 0x00008000#32 ∧ t.chA.writeAddr = 0x00000200#32 ∧
        t.chA.transCount = BitVec.ofNat 32 (s.params.n / 4) ∧ t.chA.countReload = BitVec.ofNat 32 (s.params.n / 4) ∧
        ctrlWord t.chA.ctrl = 0x8000001B#32 ∧
        t.chB = { readAddr := 0x00000300#32, writeAddr := 0x00000100#32, transCount := 0#32,
                  ctrl := { en := true, incrRead := false, incrWrite := false, pace := false, chainEn := true,
                            busy := false },
                  countReload := 1#32 } ∧
        t = { s with mem := t.mem, chA := t.chA, chB := t.chB, started := true, bsuEn := true, cmdBusy := false,
                     seqPhase := .idle }

/-- R199, R263, R264, R269, R275: a `START` whose preconditions fail raises the flags of the checks that fail, all of
them at once, and changes nothing else; an earlier configuration error alone refuses it and raises nothing new. -/
def Obligations.StartRefusedOnlyRaisesFlags : Prop :=
  ∀ s : State,
    (s.started = true → ∃ t, exec .start s = .next t ∧ (∀ e, t.hasErr e = (decide (e = .restart) || s.hasErr e)) ∧
      t = { s with err := t.err, cmdBusy := false, seqPhase := .idle }) ∧
    (s.started = false → s.shapeSel = 15#4 ∨ s.divValid = false ∨ s.hasErr .divRange = true ∨
        s.hasErr .noTable = true ∨ s.hasErr .noDiv = true →
      ∃ t, exec .start s = .next t ∧
        (∀ e, t.hasErr e = (s.hasErr e || decide (e = .noTable ∧ s.shapeSel = 15#4) ||
          decide (e = .noDiv ∧ s.divValid = false))) ∧
        t = { s with err := t.err, cmdBusy := false, seqPhase := .idle })

/-- The model's own stop (assumption log 5): in the loop of `GENALL` with an index above 12, and in the copy of `WAVE`
with an index not below `W` or a shape above 12, the meaning faults, since R120 defines tables 0..12 only. No reachable
state is such (`StepsNeverStop`). -/
def Obligations.CorruptSequencerIndexFaults : Prop :=
  (∀ s : State, s.seqPhase = .genLoop → 12 < s.seqIdx.toNat → exec .genall s = .fault .sequencerIndex) ∧
    ∀ (sel : Nat) (s : State), s.seqPhase = .wvCopy → 12 < sel ∨ s.params.n / 4 ≤ s.seqIdx.toNat →
      exec (.wave sel) s = .fault .sequencerIndex

/-! ## Host transactions (spec/45_host_interface.md R242, R243) -/

/-- R242 with R23 to R34, R62: a read of each control and status register returns its fields right-aligned with
reserved bits 0, a read of each descriptor register returns it, a read of `TXQ` returns 0 and pops nothing, and none of
them changes anything but the bus outputs. -/
def Obligations.RdReturnsRegisters : Prop :=
  (∀ s : State, s.params.n < 2 ^ 11 → s.params.cHz < 2 ^ 32 → s.txq.length < 2 ^ 5 →
    ∀ (a : BitVec 16) (v : Nat),
      (a, v) ∈ [(0x0000#16, s.cmdReg.toNat),
        (0x0004#16, s.cmdBusy.toNat + 2 * s.started.toNat + 4 * s.bsuEn.toNat + 8 * s.divValid.toNat
          + 256 * s.err.toNat),
        (0x0008#16, s.freq.toNat), (0x000C#16, s.multIdx.toNat), (0x0010#16, s.divReg.toNat),
        (0x0014#16, s.shapeSel.toNat), (0x0018#16, s.params.n), (0x001C#16, s.genDone.toNat),
        (0x0020#16, s.txq.length + 2 ^ 8 * s.osrCnt.toNat + 2 ^ 16 * s.pins.toNat), (0x0024#16, s.params.cHz),
        (0x0028#16, s.osr.toNat)] →
      exec (.rd a) s = .next { s with busRdata := BitVec.ofNat 32 v, busAck := true, busErr := false }) ∧
    ∀ (s : State) (a : BitVec 16) (v : Word),
      (a, v) ∈ [(0x0100#16, s.chA.readAddr), (0x0104#16, s.chA.writeAddr), (0x0108#16, s.chA.transCount),
        (0x010C#16, ctrlWord s.chA.ctrl), (0x0110#16, s.chA.countReload), (0x0120#16, s.chB.readAddr),
        (0x0124#16, s.chB.writeAddr), (0x0128#16, s.chB.transCount), (0x012C#16, ctrlWord s.chB.ctrl),
        (0x0130#16, s.chB.countReload), (0x0200#16, 0#32)] →
      exec (.rd a) s = .next { s with busRdata := v, busAck := true, busErr := false }

/-- R242 with R61, R67: a read of an aligned word of `LIT`, a table or `ACTIVE` returns the word and changes nothing
but the bus outputs. -/
def Obligations.RdReturnsMemoryWords : Prop :=
  ∀ (s : State) (a : BitVec 16), s.params.n ≤ 1024 → memoryWordAddress s.params a.toNat →
    exec (.rd a) s = .next { s with busRdata := s.wordAt a.toNat, busAck := true, busErr := false }

/-- R242, R64, R267: a read that is misaligned or unmapped returns 0 with `bus_err = 1` and raises `E_BUS`; nothing
else changes. -/
def Obligations.RdRefusedReturnsZero : Prop :=
  ∀ (s : State) (a : BitVec 16), s.params.n ≤ 1024 →
    (a.toNat % 4 ≠ 0 ∨ (0x002C ≤ a.toNat ∧ a.toNat < 0x0100) ∨ (0x0114 ≤ a.toNat ∧ a.toNat < 0x0120) ∨
      (0x0134 ≤ a.toNat ∧ a.toNat < 0x0200) ∨ (0x0204 ≤ a.toNat ∧ a.toNat < 0x0300) ∨
      (0x0304 ≤ a.toNat ∧ a.toNat < 0x4000) ∨
      (∃ sel, sel ≤ 12 ∧ 0x4000 + 0x400 * sel + 4 * (s.params.n / 4) ≤ a.toNat ∧ a.toNat < 0x4400 + 0x400 * sel) ∨
      (0x7400 ≤ a.toNat ∧ a.toNat < 0x8000) ∨ 0x8000 + 4 * (s.params.n / 4) ≤ a.toNat) →
    ∃ t, exec (.rd a) s = .next t ∧ (∀ e, t.hasErr e = (decide (e = .bus) || s.hasErr e)) ∧
      t = { s with err := t.err, busRdata := 0#32, busAck := true, busErr := true }

/-- R243, R244, R24: a write to `CMD` is accepted when no command is in progress, dropped with `E_CMD_OVERRUN`
otherwise; a write anywhere else is dropped with `E_BUS`. That `bus_rdata` holds is the model's choice (log 9). -/
def Obligations.WrAcceptsOnlyIdleCommands : Prop :=
  ∀ (a : BitVec 16) (d : Word) (s : State),
    (a = 0x0000#16 → s.cmdBusy = false →
      exec (.wr a d) s =
        .next { s with cmdReg := d, cmdBusy := true, seqPhase := .exec, busAck := true, busErr := false }) ∧
    (a = 0x0000#16 → s.cmdBusy = true → ∃ t, exec (.wr a d) s = .next t ∧
      (∀ e, t.hasErr e = (decide (e = .cmdOverrun) || s.hasErr e)) ∧
      t = { s with err := t.err, busAck := true, busErr := true }) ∧
    (a ≠ 0x0000#16 → ∃ t, exec (.wr a d) s = .next t ∧
      (∀ e, t.hasErr e = (decide (e = .bus) || s.hasErr e)) ∧
      t = { s with err := t.err, busAck := true, busErr := true })

/-- R35, R241, R277: whatever the host does, the StreamingState, the descriptors, the queue, the BSU and every memory
byte are as before; only the command acceptance, the sticky flags and the bus outputs can change. -/
def Obligations.HostCannotMutateBlock : Prop :=
  ∀ (x : BusTxn) (s t : State), runMove (.host x) s = .next t →
    t = { s with cmdReg := t.cmdReg, cmdBusy := t.cmdBusy, seqPhase := t.seqPhase, err := t.err,
                 busRdata := t.busRdata, busAck := t.busAck, busErr := t.busErr } ∧
    (x.we = false → t.cmdReg = s.cmdReg ∧ t.cmdBusy = s.cmdBusy ∧ t.seqPhase = s.seqPhase)

/-! ## The Bit-Streaming Unit (spec/42_bit_streaming_unit.md) -/

/-- R172, R174, R175: the tick refills `osr` from the head of the queue when it is empty, presents bits 7:0, shifts
right by 8 and counts down, and nothing else changes; disabled, or with nothing to present, it has no step, and `pins`
holds: a move given to it changes nothing (the model's choice, log 4). -/
def Obligations.TickPresentsNextByteOrHolds : Prop :=
  (∀ s : State, s.bsuEn = true →
    (∀ (v : Word) (rest : List Word), s.osrCnt = 0#3 → s.txq = v :: rest →
      runMove .bsu s = .next { s with txq := rest, pins := v.extractLsb' 0 8, osr := v >>> 8, osrCnt := 3#3,
                                      outTrace := s.outTrace ++ [v.extractLsb' 0 8] }) ∧
    (s.osrCnt ≠ 0#3 →
      runMove .bsu s = .next { s with pins := s.osr.extractLsb' 0 8, osr := s.osr >>> 8, osrCnt := s.osrCnt - 1#3,
                                      outTrace := s.outTrace ++ [s.osr.extractLsb' 0 8] })) ∧
    ∀ s : State, s.bsuEn = false ∨ (s.osrCnt = 0#3 ∧ s.txq = []) → runMove .bsu s = .next s

/-- R176: at a clock edge the prescaler is frozen while the BSU is disabled, counts down above 1, and otherwise is
reloaded with `DIV` while the BSU takes its step if it has one. -/
def Obligations.PrescalerPacesTicks : Prop :=
  ∀ s : State,
    (s.bsuEn = false → runMove .clock s = .next s) ∧
    (s.bsuEn = true → 1 < s.presc.toNat → ∃ t, runMove .clock s = .next t ∧ t.presc.toNat = s.presc.toNat - 1 ∧
      t = { s with presc := t.presc }) ∧
    (s.bsuEn = true → s.presc.toNat ≤ 1 → ∃ t, runMove .bsu s = .next t ∧
      runMove .clock s = .next { t with presc := s.divReg })

/-- R176: from a tick on, the next `DIV - 1` clock edges change nothing but the prescaler, and edge number `DIV` is the
next tick: the BSU takes its step and the prescaler is reloaded. -/
def Obligations.TicksAreDivisorApart : Prop :=
  ∀ (s : State) (d : Nat), s.bsuEn = true → 1 ≤ d → s.divReg.toNat = d → s.presc = s.divReg →
    s.agenda = List.replicate d .clock → s.busAck = false → s.busErr = false →
    ∃ u t, runSteps (d - 1) s = .next u ∧ u = { s with presc := 1#16, agenda := [.clock] } ∧
      runMove .bsu s = .next t ∧ runSteps d s = .next { t with presc := s.divReg, agenda := [] }

/-! ## The Transfer Engine (spec/43_transfer_engine.md) -/

/-- R192 with R197, R195: Channel A in a run, with room in the queue, pushes the word of `ACTIVE` it points at,
advances by 4, counts down, and on its last word becomes dormant and triggers Channel B. -/
def Obligations.ChannelAPushesNextWord : Prop :=
  ∀ (s : State) (w : Nat), s.params.legal = true → EngineRunning s → s.aRunning →
    s.txq.length < s.params.qdepth → w = s.params.words - s.chA.transCount.toNat →
    ∃ t, runMove .cha s = .next t ∧ t.txq = s.txq ++ [s.wordAt (0x8000 + 4 * w)] ∧
      t.pushTrace = s.pushTrace ++ [s.wordAt (0x8000 + 4 * w)] ∧
      t.chA.readAddr.toNat = 0x8000 + 4 * (w + 1) ∧ t.chA.transCount.toNat + 1 = s.chA.transCount.toNat ∧
      (w + 1 < s.params.words → t = { s with
        txq := t.txq, pushTrace := t.pushTrace,
        chA := { s.chA with readAddr := t.chA.readAddr, transCount := t.chA.transCount } }) ∧
      (w + 1 = s.params.words → t = { s with
        txq := t.txq, pushTrace := t.pushTrace,
        chA := { s.chA with readAddr := t.chA.readAddr, transCount := 0#32, ctrl := { s.chA.ctrl with busy := false } },
        chB := { s.chB with transCount := 1#32, ctrl := { s.chB.ctrl with busy := true } } })

/-- R200, R201: Channel B's one step restores Channel A's address to the table base, reloads its count, and hands the
activity back; nothing else changes. -/
def Obligations.ChannelBRearmsChannelA : Prop :=
  ∀ s : State, EngineRunning s → s.bRunning →
    runMove .chb s = .next { s with
      chA := { s.chA with readAddr := 0x00008000#32, transCount := BitVec.ofNat 32 s.params.words,
                          ctrl := { s.chA.ctrl with en := true, busy := true } },
      chB := { s.chB with transCount := 0#32, ctrl := { s.chB.ctrl with busy := false } } }

/-- With the queue full, or with no run, a channel has no step (R191, R203). That a move given to it changes nothing is
the model's choice (log 4). -/
def Obligations.ChannelWaitsWithoutEffect : Prop :=
  ∀ s : State,
    ((s.chA.ctrl.en = false ∨ s.chA.ctrl.busy = false) → runMove .cha s = .next s) ∧
    ((s.chB.ctrl.en = false ∨ s.chB.ctrl.busy = false) → runMove .chb s = .next s) ∧
    (s.chA.ctrl.pace = true → s.chA.transCount ≠ 0#32 → s.params.qdepth ≤ s.txq.length → runMove .cha s = .next s)

/-- R196: a channel in a run with count 0 ends the run without a transfer and, chained, triggers the other one. -/
def Obligations.ZeroCountChannelOnlyChains : Prop :=
  ∀ s : State,
    (s.chA.ctrl.en = true → s.chA.ctrl.busy = true → s.chA.transCount = 0#32 → ∃ t, runMove .cha s = .next t ∧
      (s.chA.ctrl.chainEn = false → t = { s with chA := { s.chA with ctrl := { s.chA.ctrl with busy := false } } }) ∧
      (s.chA.ctrl.chainEn = true → t = { s with
        chA := { s.chA with ctrl := { s.chA.ctrl with busy := false } },
        chB := { s.chB with transCount := s.chB.countReload,
                            ctrl := { s.chB.ctrl with en := true, busy := true } } })) ∧
    (s.chB.ctrl.en = true → s.chB.ctrl.busy = true → s.chB.transCount = 0#32 → ∃ t, runMove .chb s = .next t ∧
      (s.chB.ctrl.chainEn = false → t = { s with chB := { s.chB with ctrl := { s.chB.ctrl with busy := false } } }) ∧
      (s.chB.ctrl.chainEn = true → t = { s with
        chB := { s.chB with ctrl := { s.chB.ctrl with busy := false } },
        chA := { s.chA with transCount := s.chA.countReload,
                            ctrl := { s.chA.ctrl with en := true, busy := true } } }))

/-- R62, R64, R193, R66: a DMA read returns the word of `LIT`, a table or `ACTIVE` and, anywhere else, 0 with `E_BUS`; a
DMA write sets `A.READ_ADDR`, pushes into `TXQ` when there is room and is dropped silently when there is none, and
anywhere else changes nothing but `E_BUS`. -/
def Obligations.DmaAccessRights : Prop :=
  ∀ (s : State) (a v : Word), s.params.n ≤ 1024 →
    (memoryWordAddress s.params a.toNat → s.dmaRead a = (s.wordAt a.toNat, s)) ∧
    (¬ memoryWordAddress s.params a.toNat → s.dmaRead a = (0#32, s.raise .bus)) ∧
    (a ≠ 0x00000200#32 → a ≠ 0x00000100#32 → s.dmaWrite a v = s.raise .bus) ∧
    s.dmaWrite 0x00000100#32 v = { s with chA := { s.chA with readAddr := v } } ∧
    (s.txq.length < s.params.qdepth →
      s.dmaWrite 0x00000200#32 v = { s with txq := s.txq ++ [v], pushTrace := s.pushTrace ++ [v] }) ∧
    (s.params.qdepth ≤ s.txq.length → s.dmaWrite 0x00000200#32 v = s)

/-! ## Reset (spec/70_reset_and_hazards.md R290, spec/10_state.md R45) -/

/-- R45, R290: an edge with `rst = 1` gives every register the value R45 states, from any state, and `bus_ack = 0`; every
byte of memory is unspecified. That it is the free value of an unwritten byte (log 2), a fresh one after each reset
(log 3), is the model's choice among those R291 and U3 allow. -/
def Obligations.ResetGivesStatedValues : Prop :=
  ∀ s : State, s.params.legal = true → ∃ t, runMove .rst s = .next t ∧ t.params = s.params ∧
    t.cmdReg = 0#32 ∧ t.cmdBusy = false ∧ t.seqPhase = .idle ∧ t.seqIdx = 0#9 ∧ t.started = false ∧
    t.bsuEn = false ∧ t.divValid = false ∧ t.err = 0#7 ∧ t.freq.toNat = s.params.fInit ∧ t.multIdx = 0#3 ∧
    t.divReg = 0#16 ∧ t.shapeSel = 15#4 ∧ t.genDone = 0#13 ∧
    (∀ x, (t.chan x).readAddr = 0#32 ∧ (t.chan x).writeAddr = 0#32 ∧ (t.chan x).transCount = 0#32 ∧
      (t.chan x).countReload = 0#32 ∧ ctrlWord (t.chan x).ctrl = 0#32) ∧
    t.txq = [] ∧ t.osr = 0#32 ∧ t.osrCnt = 0#3 ∧ t.pins = 0#8 ∧ t.presc = 0#16 ∧ t.outTrace = [] ∧
    t.pushTrace = [] ∧ t.busAck = false ∧ ∀ a, t.byteAt a = Config.unwrittenByte t.resets a

/-- R45 with the defaults of R10: the machine the host runs starts there, every parameter but `SINE_TABLE` and `T_GEN`
(logs 12 and 7) at its default and every state element at its reset value; `bus_ack = 0` by R290. That a byte of memory,
unspecified, is the free value of an unwritten byte is the model's choice (log 2). -/
def Obligations.CoreStartsAtStatedReset : Prop :=
  core.reset = State.reset ∧
    (State.reset.params.n = 100 ∧ State.reset.params.words = 25 ∧ State.reset.params.cHz = 125000000 ∧ fMin = 20 ∧
      fMax = 1000000 ∧ nShapes = 13 ∧ State.reset.params.qdepth = 4 ∧ State.reset.params.divMax = 65535 ∧
      State.reset.params.multMax = 5 ∧ (∀ k, k ≤ 5 → State.reset.params.mult[k]? = some (10 ^ k)) ∧
      State.reset.params.fInit = 1000 ∧ State.reset.params.roundTie = .halfEven ∧
      State.reset.params.triQuant = .floor ∧ stairStep = 20 ∧ State.reset.params.legal = true) ∧
    (State.reset.cmdReg = 0#32 ∧ State.reset.cmdBusy = false ∧ State.reset.seqPhase = .idle ∧
      State.reset.seqIdx = 0#9 ∧ State.reset.started = false ∧ State.reset.bsuEn = false ∧
      State.reset.divValid = false ∧ State.reset.err = 0#7 ∧ State.reset.freq = 1000#20 ∧
      State.reset.multIdx = 0#3 ∧ State.reset.divReg = 0#16 ∧ State.reset.shapeSel = 15#4 ∧
      State.reset.genDone = 0#13 ∧
      (∀ x, (State.reset.chan x).readAddr = 0#32 ∧ (State.reset.chan x).writeAddr = 0#32 ∧
        (State.reset.chan x).transCount = 0#32 ∧ (State.reset.chan x).countReload = 0#32 ∧
        ctrlWord (State.reset.chan x).ctrl = 0#32) ∧
      State.reset.txq = [] ∧ State.reset.osr = 0#32 ∧ State.reset.osrCnt = 0#3 ∧ State.reset.pins = 0#8 ∧
      State.reset.presc = 0#16 ∧ State.reset.outTrace = [] ∧ State.reset.pushTrace = [] ∧
      State.reset.busAck = false ∧ ∀ a, State.reset.byteAt a = Config.unwrittenByte State.reset.resets a)

/-! ## Invariants -/

/-- R11: parameters that break one of its conditions are refused at construction, and so are those that break one of the
conditions of log 11, the model's reading of other rules; all others build the block in its reset state, and the
invariant holds there. -/
def Obligations.ConstructionGivesInvariantOrRefuses : Prop :=
  ∀ p : Params,
    (¬ p.inScope → State.construct p = .refused .illegalParameters) ∧
    (¬ p.complete → State.construct p = .refused .illegalParameters) ∧
    (p.inScope → p.complete → State.construct p = .next (State.ofParams p) ∧ BlockInvariant (State.ofParams p))

/-- R26 to R29, R37, R179, R201, R202, R227: every step, of any agent, clock edge or reset, keeps the invariant. -/
def Obligations.EveryStepKeepsBlockInvariant : Prop :=
  ∀ s t : State, BlockInvariant s → step s = .next t → BlockInvariant t

/-- R246, R260: in every state that meets the invariant the step answers a next state: nothing stops the block. -/
def Obligations.StepsNeverStop : Prop :=
  ∀ s : State, BlockInvariant s → ∃ t, step s = .next t

/-- Memory keeps its canonical form under every step, whatever the state. -/
def Obligations.StepsKeepMemoryCanonical : Prop :=
  ∀ s t : State, Memory.wf s.mem → step s = .next t → Memory.wf t.mem

/-- R275: no move but reset clears an error flag. -/
def Obligations.ErrorFlagsAreSticky : Prop :=
  ∀ (m : Move) (s t : State), m ≠ .rst → runMove m s = .next t → ∀ e, s.hasErr e = true → t.hasErr e = true

/-- R10, R44: no move changes a construction-time parameter. -/
def Obligations.ParametersNeverChange : Prop :=
  ∀ s t : State, step s = .next t → t.params = s.params

/-- R225: no instruction but `WAVE` writes a byte of `ACTIVE`, and no step of the channels or the BSU writes memory at
all. -/
def Obligations.OnlyWaveWritesActive : Prop :=
  ∀ s t : State, s.params.legal = true →
    (∀ i : Instr, (∀ sel, i ≠ .wave sel) → exec i s = .next t →
      ∀ a, 0x8000 ≤ a → a < 0x8000 + s.params.n → t.byteAt a = s.byteAt a) ∧
    (∀ m : Move, m = .cha ∨ m = .chb ∨ m = .bsu ∨ m = .clock → runMove m s = .next t →
      t.mem = s.mem ∧ t.resets = s.resets)

/-! ## Whole runs -/

/-- R179, for every schedule from reset: what has been presented is the beginning of the bytes pushed, in order. -/
def Obligations.OutputIsPushedBytesInOrder : Prop :=
  ∀ (p : Params) (ms : List Move) (t : State), p.legal = true →
    runSteps ms.length { State.ofParams p with agenda := ms } = .next t →
    ∃ rest, bytesOf t.pushTrace = t.outTrace ++ rest ∧ rest.length = t.osrCnt.toNat + 4 * t.txq.length

/-- R206: push number `k` carries the word `ACTIVE[k mod W]` as it stood when Channel A read it. -/
def Obligations.PushCarriesActiveWord : Prop :=
  ∀ s t : State, BlockInvariant s → runMove .cha s = .next t → t.pushTrace ≠ s.pushTrace →
    t.pushTrace = s.pushTrace ++ [s.wordAt (0x8000 + 4 * (s.pushTrace.length % s.params.words))]

/-- R206: while the host is silent the output of a started block is the active table repeated for ever: with every word
pushed so far from table `sel`, byte number `j` presented by any schedule is sample `j mod N`. -/
def Obligations.OutputRepeatsTable : Prop :=
  ∀ (s t : State) (sel : Nat) (ms : List Move), BlockInvariant s → s.started = true → s.seqPhase = .idle →
    s.shapeSel.toNat = sel → s.agenda = ms → (∀ m, m ∈ ms → m.isAutonomous = true) →
    (∀ k, k < s.pushTrace.length → s.pushTrace[k]? = some (packedWord s.params sel (k % s.params.words))) →
    runSteps ms.length s = .next t →
    ∀ j, j < t.outTrace.length → t.outTrace[j]? = some (tableByte s.params sel (j % s.params.n))

/-- R228, R295: once a swap has completed, at most `3 + 4 * QDEPTH` more bytes can come from an older table; every
later byte number `j`, under any schedule with a silent host, is sample `j mod N` of the table now active. -/
def Obligations.StaleBytesAreBounded : Prop :=
  ∀ (s t : State) (sel : Nat) (ms : List Move), BlockInvariant s → s.started = true → s.seqPhase = .idle →
    s.shapeSel.toNat = sel → s.agenda = ms → (∀ m, m ∈ ms → m.isAutonomous = true) →
    runSteps ms.length s = .next t →
    ∀ j, s.outTrace.length + (3 + 4 * s.params.qdepth) ≤ j → j < t.outTrace.length →
      t.outTrace[j]? = some (tableByte s.params sel (j % s.params.n))

/-- R246: every command terminates: after as many sequencer steps as it needs, however the other agents interleave,
`CMD_BUSY` has been 0; hence "under weak fairness `CMD_BUSY` always returns to 0", in every infinite run of atomic
steps, clock edges, reference cycles and resets. -/
def Obligations.CommandsTerminate : Prop :=
  (∀ (s : State) (ms : List Move), BlockInvariant s → s.agenda = ms → (∀ m, m ∈ ms → m.isAgentStep = true) →
    s.seqRemaining ≤ ms.count .seq →
    s.seqRemaining ≤ max 14 (s.params.words + 3) ∧
    ∃ (k : Nat) (t : State), k ≤ ms.length ∧ runSteps k s = .next t ∧ t.cmdBusy = false) ∧
  ∀ (schedule : Nat → Move) (trajectory : Nat → State), IsRun schedule trajectory → BlockInvariant (trajectory 0) →
    WeaklyFair schedule trajectory → ∀ k, ∃ j, k ≤ j ∧ (trajectory j).cmdBusy = false

/-- R305 with R8: the clocked reference schedule is one legal schedule: every run of reference cycles, with whatever
transactions the host presents in them, is weakly fair to all five agents. -/
def Obligations.ReferenceScheduleIsWeaklyFair : Prop :=
  ∀ (schedule : Nat → Move) (trajectory : Nat → State) (txn : Nat → Option BusTxn), IsRun schedule trajectory →
    BlockInvariant (trajectory 0) → (∀ k, schedule k = .cycle (txn k)) → WeaklyFair schedule trajectory

/-- R305: in the clocked reference schedule the stream is gapless: from reset on the queue stays ready, and in every
cycle that the BSU ends enabled, whatever the host and the sequencer do in it, a tick presents a byte and reloads the
prescaler with `DIV`, and between ticks only the prescaler moves: without exception at word and lap boundaries. -/
def Obligations.ClockedStreamIsGapless : Prop :=
  (∀ p : Params, QueueReady (State.ofParams p)) ∧
    ∀ (s t : State) (x : Option BusTxn), BlockInvariant s → QueueReady s → runMove (.cycle x) s = .next t →
      QueueReady t ∧
      (t.bsuEn = true → s.presc.toNat ≤ 1 → t.presc = t.divReg ∧ t.outTrace = s.outTrace ++ [t.pins]) ∧
      (t.bsuEn = true → 1 < s.presc.toNat →
        t.presc.toNat = s.presc.toNat - 1 ∧ t.outTrace = s.outTrace ∧ t.pins = s.pins)

/-! ## Tables and divisor (spec/40_table_generator.md, spec/41_clock_rate.md) -/

/-- R151: the realised frequency `C / (D * N)` is never below the target, and the next divisor would be too large. -/
def Obligations.RealisedFrequencyNotBelowTarget : Prop :=
  ∀ c f n : Nat, 0 < f → 0 < n →
    f * (computeDivisor c f n * n) ≤ c ∧ c < f * ((computeDivisor c f n + 1) * n)

/-- R120, R129: every sample of every table is in 0..255, for every legal parameter choice. -/
def Obligations.SamplesFitInByte : Prop :=
  ∀ (p : Params) (sel i : Nat), p.legal = true → sel ≤ 12 → i < p.n →
    tableSample p sel i ≤ 255 ∧ (tableByte p sel i).toNat = tableSample p sel i

/-- R126, R122: the triangle at index `i` is `|255 - 510 * i / N|`, its floor or rounded as `TRI_QUANT` says; so it is 255
at index 0, 0 at `N/2`, and symmetric about the midpoint. -/
def Obligations.TriangleFollowsFormula : Prop :=
  ∀ p : Params, p.legal = true →
    (∀ i num : Nat, i < p.n → (num : ℤ) = |255 * (p.n : ℤ) - 510 * i| →
      (p.triQuant = .floor → p.n * tableSample p 1 i ≤ num ∧ num < p.n * (tableSample p 1 i + 1)) ∧
      (p.triQuant = .round → IsRounded p.roundTie num p.n (tableSample p 1 i))) ∧
    tableSample p 1 0 = 255 ∧ tableSample p 1 (p.n / 2) = 0 ∧
    ∀ i, 1 ≤ i → i < p.n → tableSample p 1 (p.n - i) = tableSample p 1 i

/-- R125, R127, R128: the sawtooth is `255 * i / N` rounded, 0 at index 0 and never falling; the staircase is
`floor(255 * k / (K - 1))` on its step `k = i div 20` of `K = ceil(N / 20)`, so it starts at 0 and ends at 255 when there
is more than one step, and 0 when there is one; a square at duty `D` is `0xFF` exactly for the first `floor(D * N / 100)`
samples. -/
def Obligations.RampStairAndSquareFollowFormulas : Prop :=
  ∀ p : Params, p.legal = true →
    (∀ i, i < p.n → IsRounded p.roundTie (255 * i) p.n (tableSample p 2 i)) ∧ tableSample p 2 0 = 0 ∧
    (∀ i j, i ≤ j → j < p.n → tableSample p 2 i ≤ tableSample p 2 j) ∧
    (∀ i steps, i < p.n → steps = (p.n + 19) / 20 →
      (2 ≤ steps → tableSample p 3 i = 255 * (i / 20) / (steps - 1)) ∧ (steps < 2 → tableSample p 3 i = 0)) ∧
    tableSample p 3 0 = 0 ∧ (20 < p.n → tableSample p 3 (p.n - 1) = 255) ∧
    ∀ sel i, 4 ≤ sel → sel ≤ 12 →
      (i < 10 * (sel - 3) * p.n / 100 → tableSample p sel i = 255) ∧
      (10 * (sel - 3) * p.n / 100 ≤ i → tableSample p sel i = 0)

/-- R123, R124: at `N = 100` every sine sample is the integer nearest to `128 + 127 * sin(2 * pi * (i + 1/2) / 100)`,
the sine taken over the reals. -/
def Obligations.SineTableIsRoundedFormula : Prop :=
  ∀ (p : Params) (i : Nat), p.n = 100 → i < 100 →
    |((tableSample p 0 i : ℝ) - (128 + 127 * Real.sin (2 * Real.pi * ((i : ℝ) + 1 / 2) / 100)))| < 1 / 2
end

