-- ==== Sys2Proof/Laws/State.lean ====
section
/-! SUPPORT. One lemma per field of `State` and per named update: what the update leaves in that field. All hold by
`rfl` (by cases on the channel, or on the branch of a conditional update), so that no later proof unfolds an update. -/

namespace Sys2Proof.Machine

variable (s : State)

/-! ### `State.raise` -/

@[simp] theorem State.raise_params (e : ErrCause) : (s.raise e).params = s.params := rfl
@[simp] theorem State.raise_cmdReg (e : ErrCause) : (s.raise e).cmdReg = s.cmdReg := rfl
@[simp] theorem State.raise_cmdBusy (e : ErrCause) : (s.raise e).cmdBusy = s.cmdBusy := rfl
@[simp] theorem State.raise_seqPhase (e : ErrCause) : (s.raise e).seqPhase = s.seqPhase := rfl
@[simp] theorem State.raise_seqIdx (e : ErrCause) : (s.raise e).seqIdx = s.seqIdx := rfl
@[simp] theorem State.raise_started (e : ErrCause) : (s.raise e).started = s.started := rfl
@[simp] theorem State.raise_bsuEn (e : ErrCause) : (s.raise e).bsuEn = s.bsuEn := rfl
@[simp] theorem State.raise_divValid (e : ErrCause) : (s.raise e).divValid = s.divValid := rfl
@[simp] theorem State.raise_err (e : ErrCause) : (s.raise e).err = s.err ||| (1#7 <<< e.code) := rfl
@[simp] theorem State.raise_freq (e : ErrCause) : (s.raise e).freq = s.freq := rfl
@[simp] theorem State.raise_multIdx (e : ErrCause) : (s.raise e).multIdx = s.multIdx := rfl
@[simp] theorem State.raise_divReg (e : ErrCause) : (s.raise e).divReg = s.divReg := rfl
@[simp] theorem State.raise_shapeSel (e : ErrCause) : (s.raise e).shapeSel = s.shapeSel := rfl
@[simp] theorem State.raise_genDone (e : ErrCause) : (s.raise e).genDone = s.genDone := rfl
@[simp] theorem State.raise_chA (e : ErrCause) : (s.raise e).chA = s.chA := rfl
@[simp] theorem State.raise_chB (e : ErrCause) : (s.raise e).chB = s.chB := rfl
@[simp] theorem State.raise_txq (e : ErrCause) : (s.raise e).txq = s.txq := rfl
@[simp] theorem State.raise_osr (e : ErrCause) : (s.raise e).osr = s.osr := rfl
@[simp] theorem State.raise_osrCnt (e : ErrCause) : (s.raise e).osrCnt = s.osrCnt := rfl
@[simp] theorem State.raise_pins (e : ErrCause) : (s.raise e).pins = s.pins := rfl
@[simp] theorem State.raise_presc (e : ErrCause) : (s.raise e).presc = s.presc := rfl
@[simp] theorem State.raise_mem (e : ErrCause) : (s.raise e).mem = s.mem := rfl
@[simp] theorem State.raise_outTrace (e : ErrCause) : (s.raise e).outTrace = s.outTrace := rfl
@[simp] theorem State.raise_pushTrace (e : ErrCause) : (s.raise e).pushTrace = s.pushTrace := rfl
@[simp] theorem State.raise_busRdata (e : ErrCause) : (s.raise e).busRdata = s.busRdata := rfl
@[simp] theorem State.raise_busAck (e : ErrCause) : (s.raise e).busAck = s.busAck := rfl
@[simp] theorem State.raise_busErr (e : ErrCause) : (s.raise e).busErr = s.busErr := rfl
@[simp] theorem State.raise_agenda (e : ErrCause) : (s.raise e).agenda = s.agenda := rfl
@[simp] theorem State.raise_freeCtr (e : ErrCause) : (s.raise e).freeCtr = s.freeCtr := rfl
@[simp] theorem State.raise_resets (e : ErrCause) : (s.raise e).resets = s.resets := rfl
@[simp] theorem State.raise_genWait (e : ErrCause) : (s.raise e).genWait = s.genWait := rfl

/-! ### `State.finish` -/

@[simp] theorem State.finish_params : s.finish.params = s.params := rfl
@[simp] theorem State.finish_cmdReg : s.finish.cmdReg = s.cmdReg := rfl
@[simp] theorem State.finish_cmdBusy : s.finish.cmdBusy = false := rfl
@[simp] theorem State.finish_seqPhase : s.finish.seqPhase = .idle := rfl
@[simp] theorem State.finish_seqIdx : s.finish.seqIdx = s.seqIdx := rfl
@[simp] theorem State.finish_started : s.finish.started = s.started := rfl
@[simp] theorem State.finish_bsuEn : s.finish.bsuEn = s.bsuEn := rfl
@[simp] theorem State.finish_divValid : s.finish.divValid = s.divValid := rfl
@[simp] theorem State.finish_err : s.finish.err = s.err := rfl
@[simp] theorem State.finish_freq : s.finish.freq = s.freq := rfl
@[simp] theorem State.finish_multIdx : s.finish.multIdx = s.multIdx := rfl
@[simp] theorem State.finish_divReg : s.finish.divReg = s.divReg := rfl
@[simp] theorem State.finish_shapeSel : s.finish.shapeSel = s.shapeSel := rfl
@[simp] theorem State.finish_genDone : s.finish.genDone = s.genDone := rfl
@[simp] theorem State.finish_chA : s.finish.chA = s.chA := rfl
@[simp] theorem State.finish_chB : s.finish.chB = s.chB := rfl
@[simp] theorem State.finish_txq : s.finish.txq = s.txq := rfl
@[simp] theorem State.finish_osr : s.finish.osr = s.osr := rfl
@[simp] theorem State.finish_osrCnt : s.finish.osrCnt = s.osrCnt := rfl
@[simp] theorem State.finish_pins : s.finish.pins = s.pins := rfl
@[simp] theorem State.finish_presc : s.finish.presc = s.presc := rfl
@[simp] theorem State.finish_mem : s.finish.mem = s.mem := rfl
@[simp] theorem State.finish_outTrace : s.finish.outTrace = s.outTrace := rfl
@[simp] theorem State.finish_pushTrace : s.finish.pushTrace = s.pushTrace := rfl
@[simp] theorem State.finish_busRdata : s.finish.busRdata = s.busRdata := rfl
@[simp] theorem State.finish_busAck : s.finish.busAck = s.busAck := rfl
@[simp] theorem State.finish_busErr : s.finish.busErr = s.busErr := rfl
@[simp] theorem State.finish_agenda : s.finish.agenda = s.agenda := rfl
@[simp] theorem State.finish_freeCtr : s.finish.freeCtr = s.freeCtr := rfl
@[simp] theorem State.finish_resets : s.finish.resets = s.resets := rfl
@[simp] theorem State.finish_genWait : s.finish.genWait = s.genWait := rfl

/-! ### `State.refuseCmd` -/

@[simp] theorem State.refuseCmd_params (e : ErrCause) : (s.refuseCmd e).params = s.params := rfl
@[simp] theorem State.refuseCmd_cmdReg (e : ErrCause) : (s.refuseCmd e).cmdReg = s.cmdReg := rfl
@[simp] theorem State.refuseCmd_cmdBusy (e : ErrCause) : (s.refuseCmd e).cmdBusy = false := rfl
@[simp] theorem State.refuseCmd_seqPhase (e : ErrCause) : (s.refuseCmd e).seqPhase = .idle := rfl
@[simp] theorem State.refuseCmd_seqIdx (e : ErrCause) : (s.refuseCmd e).seqIdx = s.seqIdx := rfl
@[simp] theorem State.refuseCmd_started (e : ErrCause) : (s.refuseCmd e).started = s.started := rfl
@[simp] theorem State.refuseCmd_bsuEn (e : ErrCause) : (s.refuseCmd e).bsuEn = s.bsuEn := rfl
@[simp] theorem State.refuseCmd_divValid (e : ErrCause) : (s.refuseCmd e).divValid = s.divValid := rfl
@[simp] theorem State.refuseCmd_err (e : ErrCause) : (s.refuseCmd e).err = s.err ||| (1#7 <<< e.code) := rfl
@[simp] theorem State.refuseCmd_freq (e : ErrCause) : (s.refuseCmd e).freq = s.freq := rfl
@[simp] theorem State.refuseCmd_multIdx (e : ErrCause) : (s.refuseCmd e).multIdx = s.multIdx := rfl
@[simp] theorem State.refuseCmd_divReg (e : ErrCause) : (s.refuseCmd e).divReg = s.divReg := rfl
@[simp] theorem State.refuseCmd_shapeSel (e : ErrCause) : (s.refuseCmd e).shapeSel = s.shapeSel := rfl
@[simp] theorem State.refuseCmd_genDone (e : ErrCause) : (s.refuseCmd e).genDone = s.genDone := rfl
@[simp] theorem State.refuseCmd_chA (e : ErrCause) : (s.refuseCmd e).chA = s.chA := rfl
@[simp] theorem State.refuseCmd_chB (e : ErrCause) : (s.refuseCmd e).chB = s.chB := rfl
@[simp] theorem State.refuseCmd_txq (e : ErrCause) : (s.refuseCmd e).txq = s.txq := rfl
@[simp] theorem State.refuseCmd_osr (e : ErrCause) : (s.refuseCmd e).osr = s.osr := rfl
@[simp] theorem State.refuseCmd_osrCnt (e : ErrCause) : (s.refuseCmd e).osrCnt = s.osrCnt := rfl
@[simp] theorem State.refuseCmd_pins (e : ErrCause) : (s.refuseCmd e).pins = s.pins := rfl
@[simp] theorem State.refuseCmd_presc (e : ErrCause) : (s.refuseCmd e).presc = s.presc := rfl
@[simp] theorem State.refuseCmd_mem (e : ErrCause) : (s.refuseCmd e).mem = s.mem := rfl
@[simp] theorem State.refuseCmd_outTrace (e : ErrCause) : (s.refuseCmd e).outTrace = s.outTrace := rfl
@[simp] theorem State.refuseCmd_pushTrace (e : ErrCause) : (s.refuseCmd e).pushTrace = s.pushTrace := rfl
@[simp] theorem State.refuseCmd_busRdata (e : ErrCause) : (s.refuseCmd e).busRdata = s.busRdata := rfl
@[simp] theorem State.refuseCmd_busAck (e : ErrCause) : (s.refuseCmd e).busAck = s.busAck := rfl
@[simp] theorem State.refuseCmd_busErr (e : ErrCause) : (s.refuseCmd e).busErr = s.busErr := rfl
@[simp] theorem State.refuseCmd_agenda (e : ErrCause) : (s.refuseCmd e).agenda = s.agenda := rfl
@[simp] theorem State.refuseCmd_freeCtr (e : ErrCause) : (s.refuseCmd e).freeCtr = s.freeCtr := rfl
@[simp] theorem State.refuseCmd_resets (e : ErrCause) : (s.refuseCmd e).resets = s.resets := rfl
@[simp] theorem State.refuseCmd_genWait (e : ErrCause) : (s.refuseCmd e).genWait = s.genWait := rfl

/-! ### `State.putWord` -/

@[simp] theorem State.putWord_params (a : Nat) (v : Word) : (s.putWord a v).params = s.params := rfl
@[simp] theorem State.putWord_cmdReg (a : Nat) (v : Word) : (s.putWord a v).cmdReg = s.cmdReg := rfl
@[simp] theorem State.putWord_cmdBusy (a : Nat) (v : Word) : (s.putWord a v).cmdBusy = s.cmdBusy := rfl
@[simp] theorem State.putWord_seqPhase (a : Nat) (v : Word) : (s.putWord a v).seqPhase = s.seqPhase := rfl
@[simp] theorem State.putWord_seqIdx (a : Nat) (v : Word) : (s.putWord a v).seqIdx = s.seqIdx := rfl
@[simp] theorem State.putWord_started (a : Nat) (v : Word) : (s.putWord a v).started = s.started := rfl
@[simp] theorem State.putWord_bsuEn (a : Nat) (v : Word) : (s.putWord a v).bsuEn = s.bsuEn := rfl
@[simp] theorem State.putWord_divValid (a : Nat) (v : Word) : (s.putWord a v).divValid = s.divValid := rfl
@[simp] theorem State.putWord_err (a : Nat) (v : Word) : (s.putWord a v).err = s.err := rfl
@[simp] theorem State.putWord_freq (a : Nat) (v : Word) : (s.putWord a v).freq = s.freq := rfl
@[simp] theorem State.putWord_multIdx (a : Nat) (v : Word) : (s.putWord a v).multIdx = s.multIdx := rfl
@[simp] theorem State.putWord_divReg (a : Nat) (v : Word) : (s.putWord a v).divReg = s.divReg := rfl
@[simp] theorem State.putWord_shapeSel (a : Nat) (v : Word) : (s.putWord a v).shapeSel = s.shapeSel := rfl
@[simp] theorem State.putWord_genDone (a : Nat) (v : Word) : (s.putWord a v).genDone = s.genDone := rfl
@[simp] theorem State.putWord_chA (a : Nat) (v : Word) : (s.putWord a v).chA = s.chA := rfl
@[simp] theorem State.putWord_chB (a : Nat) (v : Word) : (s.putWord a v).chB = s.chB := rfl
@[simp] theorem State.putWord_txq (a : Nat) (v : Word) : (s.putWord a v).txq = s.txq := rfl
@[simp] theorem State.putWord_osr (a : Nat) (v : Word) : (s.putWord a v).osr = s.osr := rfl
@[simp] theorem State.putWord_osrCnt (a : Nat) (v : Word) : (s.putWord a v).osrCnt = s.osrCnt := rfl
@[simp] theorem State.putWord_pins (a : Nat) (v : Word) : (s.putWord a v).pins = s.pins := rfl
@[simp] theorem State.putWord_presc (a : Nat) (v : Word) : (s.putWord a v).presc = s.presc := rfl
@[simp] theorem State.putWord_mem (a : Nat) (v : Word) : (s.putWord a v).mem = Memory.insertWord s.mem a v := rfl
@[simp] theorem State.putWord_outTrace (a : Nat) (v : Word) : (s.putWord a v).outTrace = s.outTrace := rfl
@[simp] theorem State.putWord_pushTrace (a : Nat) (v : Word) : (s.putWord a v).pushTrace = s.pushTrace := rfl
@[simp] theorem State.putWord_busRdata (a : Nat) (v : Word) : (s.putWord a v).busRdata = s.busRdata := rfl
@[simp] theorem State.putWord_busAck (a : Nat) (v : Word) : (s.putWord a v).busAck = s.busAck := rfl
@[simp] theorem State.putWord_busErr (a : Nat) (v : Word) : (s.putWord a v).busErr = s.busErr := rfl
@[simp] theorem State.putWord_agenda (a : Nat) (v : Word) : (s.putWord a v).agenda = s.agenda := rfl
@[simp] theorem State.putWord_freeCtr (a : Nat) (v : Word) : (s.putWord a v).freeCtr = s.freeCtr := rfl
@[simp] theorem State.putWord_resets (a : Nat) (v : Word) : (s.putWord a v).resets = s.resets := rfl
@[simp] theorem State.putWord_genWait (a : Nat) (v : Word) : (s.putWord a v).genWait = s.genWait := rfl

/-! ### `State.putWords` -/

@[simp] theorem State.putWords_params (a : Nat) (vs : List Word) : (s.putWords a vs).params = s.params := rfl
@[simp] theorem State.putWords_cmdReg (a : Nat) (vs : List Word) : (s.putWords a vs).cmdReg = s.cmdReg := rfl
@[simp] theorem State.putWords_cmdBusy (a : Nat) (vs : List Word) : (s.putWords a vs).cmdBusy = s.cmdBusy := rfl
@[simp] theorem State.putWords_seqPhase (a : Nat) (vs : List Word) : (s.putWords a vs).seqPhase = s.seqPhase := rfl
@[simp] theorem State.putWords_seqIdx (a : Nat) (vs : List Word) : (s.putWords a vs).seqIdx = s.seqIdx := rfl
@[simp] theorem State.putWords_started (a : Nat) (vs : List Word) : (s.putWords a vs).started = s.started := rfl
@[simp] theorem State.putWords_bsuEn (a : Nat) (vs : List Word) : (s.putWords a vs).bsuEn = s.bsuEn := rfl
@[simp] theorem State.putWords_divValid (a : Nat) (vs : List Word) : (s.putWords a vs).divValid = s.divValid := rfl
@[simp] theorem State.putWords_err (a : Nat) (vs : List Word) : (s.putWords a vs).err = s.err := rfl
@[simp] theorem State.putWords_freq (a : Nat) (vs : List Word) : (s.putWords a vs).freq = s.freq := rfl
@[simp] theorem State.putWords_multIdx (a : Nat) (vs : List Word) : (s.putWords a vs).multIdx = s.multIdx := rfl
@[simp] theorem State.putWords_divReg (a : Nat) (vs : List Word) : (s.putWords a vs).divReg = s.divReg := rfl
@[simp] theorem State.putWords_shapeSel (a : Nat) (vs : List Word) : (s.putWords a vs).shapeSel = s.shapeSel := rfl
@[simp] theorem State.putWords_genDone (a : Nat) (vs : List Word) : (s.putWords a vs).genDone = s.genDone := rfl
@[simp] theorem State.putWords_chA (a : Nat) (vs : List Word) : (s.putWords a vs).chA = s.chA := rfl
@[simp] theorem State.putWords_chB (a : Nat) (vs : List Word) : (s.putWords a vs).chB = s.chB := rfl
@[simp] theorem State.putWords_txq (a : Nat) (vs : List Word) : (s.putWords a vs).txq = s.txq := rfl
@[simp] theorem State.putWords_osr (a : Nat) (vs : List Word) : (s.putWords a vs).osr = s.osr := rfl
@[simp] theorem State.putWords_osrCnt (a : Nat) (vs : List Word) : (s.putWords a vs).osrCnt = s.osrCnt := rfl
@[simp] theorem State.putWords_pins (a : Nat) (vs : List Word) : (s.putWords a vs).pins = s.pins := rfl
@[simp] theorem State.putWords_presc (a : Nat) (vs : List Word) : (s.putWords a vs).presc = s.presc := rfl
@[simp] theorem State.putWords_mem (a : Nat) (vs : List Word) : (s.putWords a vs).mem = Memory.insertWords s.mem a vs := rfl
@[simp] theorem State.putWords_outTrace (a : Nat) (vs : List Word) : (s.putWords a vs).outTrace = s.outTrace := rfl
@[simp] theorem State.putWords_pushTrace (a : Nat) (vs : List Word) : (s.putWords a vs).pushTrace = s.pushTrace := rfl
@[simp] theorem State.putWords_busRdata (a : Nat) (vs : List Word) : (s.putWords a vs).busRdata = s.busRdata := rfl
@[simp] theorem State.putWords_busAck (a : Nat) (vs : List Word) : (s.putWords a vs).busAck = s.busAck := rfl
@[simp] theorem State.putWords_busErr (a : Nat) (vs : List Word) : (s.putWords a vs).busErr = s.busErr := rfl
@[simp] theorem State.putWords_agenda (a : Nat) (vs : List Word) : (s.putWords a vs).agenda = s.agenda := rfl
@[simp] theorem State.putWords_freeCtr (a : Nat) (vs : List Word) : (s.putWords a vs).freeCtr = s.freeCtr := rfl
@[simp] theorem State.putWords_resets (a : Nat) (vs : List Word) : (s.putWords a vs).resets = s.resets := rfl
@[simp] theorem State.putWords_genWait (a : Nat) (vs : List Word) : (s.putWords a vs).genWait = s.genWait := rfl

/-! ### `State.ackBus` -/

@[simp] theorem State.ackBus_params (b : Bool) : (s.ackBus b).params = s.params := rfl
@[simp] theorem State.ackBus_cmdReg (b : Bool) : (s.ackBus b).cmdReg = s.cmdReg := rfl
@[simp] theorem State.ackBus_cmdBusy (b : Bool) : (s.ackBus b).cmdBusy = s.cmdBusy := rfl
@[simp] theorem State.ackBus_seqPhase (b : Bool) : (s.ackBus b).seqPhase = s.seqPhase := rfl
@[simp] theorem State.ackBus_seqIdx (b : Bool) : (s.ackBus b).seqIdx = s.seqIdx := rfl
@[simp] theorem State.ackBus_started (b : Bool) : (s.ackBus b).started = s.started := rfl
@[simp] theorem State.ackBus_bsuEn (b : Bool) : (s.ackBus b).bsuEn = s.bsuEn := rfl
@[simp] theorem State.ackBus_divValid (b : Bool) : (s.ackBus b).divValid = s.divValid := rfl
@[simp] theorem State.ackBus_err (b : Bool) : (s.ackBus b).err = s.err := rfl
@[simp] theorem State.ackBus_freq (b : Bool) : (s.ackBus b).freq = s.freq := rfl
@[simp] theorem State.ackBus_multIdx (b : Bool) : (s.ackBus b).multIdx = s.multIdx := rfl
@[simp] theorem State.ackBus_divReg (b : Bool) : (s.ackBus b).divReg = s.divReg := rfl
@[simp] theorem State.ackBus_shapeSel (b : Bool) : (s.ackBus b).shapeSel = s.shapeSel := rfl
@[simp] theorem State.ackBus_genDone (b : Bool) : (s.ackBus b).genDone = s.genDone := rfl
@[simp] theorem State.ackBus_chA (b : Bool) : (s.ackBus b).chA = s.chA := rfl
@[simp] theorem State.ackBus_chB (b : Bool) : (s.ackBus b).chB = s.chB := rfl
@[simp] theorem State.ackBus_txq (b : Bool) : (s.ackBus b).txq = s.txq := rfl
@[simp] theorem State.ackBus_osr (b : Bool) : (s.ackBus b).osr = s.osr := rfl
@[simp] theorem State.ackBus_osrCnt (b : Bool) : (s.ackBus b).osrCnt = s.osrCnt := rfl
@[simp] theorem State.ackBus_pins (b : Bool) : (s.ackBus b).pins = s.pins := rfl
@[simp] theorem State.ackBus_presc (b : Bool) : (s.ackBus b).presc = s.presc := rfl
@[simp] theorem State.ackBus_mem (b : Bool) : (s.ackBus b).mem = s.mem := rfl
@[simp] theorem State.ackBus_outTrace (b : Bool) : (s.ackBus b).outTrace = s.outTrace := rfl
@[simp] theorem State.ackBus_pushTrace (b : Bool) : (s.ackBus b).pushTrace = s.pushTrace := rfl
@[simp] theorem State.ackBus_busRdata (b : Bool) : (s.ackBus b).busRdata = s.busRdata := rfl
@[simp] theorem State.ackBus_busAck (b : Bool) : (s.ackBus b).busAck = true := rfl
@[simp] theorem State.ackBus_busErr (b : Bool) : (s.ackBus b).busErr = b := rfl
@[simp] theorem State.ackBus_agenda (b : Bool) : (s.ackBus b).agenda = s.agenda := rfl
@[simp] theorem State.ackBus_freeCtr (b : Bool) : (s.ackBus b).freeCtr = s.freeCtr := rfl
@[simp] theorem State.ackBus_resets (b : Bool) : (s.ackBus b).resets = s.resets := rfl
@[simp] theorem State.ackBus_genWait (b : Bool) : (s.ackBus b).genWait = s.genWait := rfl

/-! ### `State.refuseBus` -/

@[simp] theorem State.refuseBus_params (e : ErrCause) : (s.refuseBus e).params = s.params := rfl
@[simp] theorem State.refuseBus_cmdReg (e : ErrCause) : (s.refuseBus e).cmdReg = s.cmdReg := rfl
@[simp] theorem State.refuseBus_cmdBusy (e : ErrCause) : (s.refuseBus e).cmdBusy = s.cmdBusy := rfl
@[simp] theorem State.refuseBus_seqPhase (e : ErrCause) : (s.refuseBus e).seqPhase = s.seqPhase := rfl
@[simp] theorem State.refuseBus_seqIdx (e : ErrCause) : (s.refuseBus e).seqIdx = s.seqIdx := rfl
@[simp] theorem State.refuseBus_started (e : ErrCause) : (s.refuseBus e).started = s.started := rfl
@[simp] theorem State.refuseBus_bsuEn (e : ErrCause) : (s.refuseBus e).bsuEn = s.bsuEn := rfl
@[simp] theorem State.refuseBus_divValid (e : ErrCause) : (s.refuseBus e).divValid = s.divValid := rfl
@[simp] theorem State.refuseBus_err (e : ErrCause) : (s.refuseBus e).err = s.err ||| (1#7 <<< e.code) := rfl
@[simp] theorem State.refuseBus_freq (e : ErrCause) : (s.refuseBus e).freq = s.freq := rfl
@[simp] theorem State.refuseBus_multIdx (e : ErrCause) : (s.refuseBus e).multIdx = s.multIdx := rfl
@[simp] theorem State.refuseBus_divReg (e : ErrCause) : (s.refuseBus e).divReg = s.divReg := rfl
@[simp] theorem State.refuseBus_shapeSel (e : ErrCause) : (s.refuseBus e).shapeSel = s.shapeSel := rfl
@[simp] theorem State.refuseBus_genDone (e : ErrCause) : (s.refuseBus e).genDone = s.genDone := rfl
@[simp] theorem State.refuseBus_chA (e : ErrCause) : (s.refuseBus e).chA = s.chA := rfl
@[simp] theorem State.refuseBus_chB (e : ErrCause) : (s.refuseBus e).chB = s.chB := rfl
@[simp] theorem State.refuseBus_txq (e : ErrCause) : (s.refuseBus e).txq = s.txq := rfl
@[simp] theorem State.refuseBus_osr (e : ErrCause) : (s.refuseBus e).osr = s.osr := rfl
@[simp] theorem State.refuseBus_osrCnt (e : ErrCause) : (s.refuseBus e).osrCnt = s.osrCnt := rfl
@[simp] theorem State.refuseBus_pins (e : ErrCause) : (s.refuseBus e).pins = s.pins := rfl
@[simp] theorem State.refuseBus_presc (e : ErrCause) : (s.refuseBus e).presc = s.presc := rfl
@[simp] theorem State.refuseBus_mem (e : ErrCause) : (s.refuseBus e).mem = s.mem := rfl
@[simp] theorem State.refuseBus_outTrace (e : ErrCause) : (s.refuseBus e).outTrace = s.outTrace := rfl
@[simp] theorem State.refuseBus_pushTrace (e : ErrCause) : (s.refuseBus e).pushTrace = s.pushTrace := rfl
@[simp] theorem State.refuseBus_busRdata (e : ErrCause) : (s.refuseBus e).busRdata = s.busRdata := rfl
@[simp] theorem State.refuseBus_busAck (e : ErrCause) : (s.refuseBus e).busAck = true := rfl
@[simp] theorem State.refuseBus_busErr (e : ErrCause) : (s.refuseBus e).busErr = true := rfl
@[simp] theorem State.refuseBus_agenda (e : ErrCause) : (s.refuseBus e).agenda = s.agenda := rfl
@[simp] theorem State.refuseBus_freeCtr (e : ErrCause) : (s.refuseBus e).freeCtr = s.freeCtr := rfl
@[simp] theorem State.refuseBus_resets (e : ErrCause) : (s.refuseBus e).resets = s.resets := rfl
@[simp] theorem State.refuseBus_genWait (e : ErrCause) : (s.refuseBus e).genWait = s.genWait := rfl

/-! ### `State.generate` -/

@[simp] theorem State.generate_params (shape : Nat) : (s.generate shape).params = s.params := rfl
@[simp] theorem State.generate_cmdReg (shape : Nat) : (s.generate shape).cmdReg = s.cmdReg := rfl
@[simp] theorem State.generate_cmdBusy (shape : Nat) : (s.generate shape).cmdBusy = s.cmdBusy := rfl
@[simp] theorem State.generate_seqPhase (shape : Nat) : (s.generate shape).seqPhase = s.seqPhase := rfl
@[simp] theorem State.generate_seqIdx (shape : Nat) : (s.generate shape).seqIdx = s.seqIdx := rfl
@[simp] theorem State.generate_started (shape : Nat) : (s.generate shape).started = s.started := rfl
@[simp] theorem State.generate_bsuEn (shape : Nat) : (s.generate shape).bsuEn = s.bsuEn := rfl
@[simp] theorem State.generate_divValid (shape : Nat) : (s.generate shape).divValid = s.divValid := rfl
@[simp] theorem State.generate_err (shape : Nat) : (s.generate shape).err = s.err := rfl
@[simp] theorem State.generate_freq (shape : Nat) : (s.generate shape).freq = s.freq := rfl
@[simp] theorem State.generate_multIdx (shape : Nat) : (s.generate shape).multIdx = s.multIdx := rfl
@[simp] theorem State.generate_divReg (shape : Nat) : (s.generate shape).divReg = s.divReg := rfl
@[simp] theorem State.generate_shapeSel (shape : Nat) : (s.generate shape).shapeSel = s.shapeSel := rfl
@[simp] theorem State.generate_genDone (shape : Nat) : (s.generate shape).genDone = s.genDone ||| (1#13 <<< shape) := rfl
@[simp] theorem State.generate_chA (shape : Nat) : (s.generate shape).chA = s.chA := rfl
@[simp] theorem State.generate_chB (shape : Nat) : (s.generate shape).chB = s.chB := rfl
@[simp] theorem State.generate_txq (shape : Nat) : (s.generate shape).txq = s.txq := rfl
@[simp] theorem State.generate_osr (shape : Nat) : (s.generate shape).osr = s.osr := rfl
@[simp] theorem State.generate_osrCnt (shape : Nat) : (s.generate shape).osrCnt = s.osrCnt := rfl
@[simp] theorem State.generate_pins (shape : Nat) : (s.generate shape).pins = s.pins := rfl
@[simp] theorem State.generate_presc (shape : Nat) : (s.generate shape).presc = s.presc := rfl
@[simp] theorem State.generate_mem (shape : Nat) : (s.generate shape).mem = Memory.insertWords s.mem (shapeBase shape) (packedTable s.params shape) := rfl
@[simp] theorem State.generate_outTrace (shape : Nat) : (s.generate shape).outTrace = s.outTrace := rfl
@[simp] theorem State.generate_pushTrace (shape : Nat) : (s.generate shape).pushTrace = s.pushTrace := rfl
@[simp] theorem State.generate_busRdata (shape : Nat) : (s.generate shape).busRdata = s.busRdata := rfl
@[simp] theorem State.generate_busAck (shape : Nat) : (s.generate shape).busAck = s.busAck := rfl
@[simp] theorem State.generate_busErr (shape : Nat) : (s.generate shape).busErr = s.busErr := rfl
@[simp] theorem State.generate_agenda (shape : Nat) : (s.generate shape).agenda = s.agenda := rfl
@[simp] theorem State.generate_freeCtr (shape : Nat) : (s.generate shape).freeCtr = s.freeCtr := rfl
@[simp] theorem State.generate_resets (shape : Nat) : (s.generate shape).resets = s.resets := rfl
@[simp] theorem State.generate_genWait (shape : Nat) : (s.generate shape).genWait = s.genWait := rfl

/-! ### `State.present` -/

@[simp] theorem State.present_params : s.present.params = s.params := rfl
@[simp] theorem State.present_cmdReg : s.present.cmdReg = s.cmdReg := rfl
@[simp] theorem State.present_cmdBusy : s.present.cmdBusy = s.cmdBusy := rfl
@[simp] theorem State.present_seqPhase : s.present.seqPhase = s.seqPhase := rfl
@[simp] theorem State.present_seqIdx : s.present.seqIdx = s.seqIdx := rfl
@[simp] theorem State.present_started : s.present.started = s.started := rfl
@[simp] theorem State.present_bsuEn : s.present.bsuEn = s.bsuEn := rfl
@[simp] theorem State.present_divValid : s.present.divValid = s.divValid := rfl
@[simp] theorem State.present_err : s.present.err = s.err := rfl
@[simp] theorem State.present_freq : s.present.freq = s.freq := rfl
@[simp] theorem State.present_multIdx : s.present.multIdx = s.multIdx := rfl
@[simp] theorem State.present_divReg : s.present.divReg = s.divReg := rfl
@[simp] theorem State.present_shapeSel : s.present.shapeSel = s.shapeSel := rfl
@[simp] theorem State.present_genDone : s.present.genDone = s.genDone := rfl
@[simp] theorem State.present_chA : s.present.chA = s.chA := rfl
@[simp] theorem State.present_chB : s.present.chB = s.chB := rfl
@[simp] theorem State.present_txq : s.present.txq = s.txq := rfl
@[simp] theorem State.present_osr : s.present.osr = s.osr >>> 8 := rfl
@[simp] theorem State.present_osrCnt : s.present.osrCnt = s.osrCnt - 1#3 := rfl
@[simp] theorem State.present_pins : s.present.pins = s.osr.extractLsb' 0 8 := rfl
@[simp] theorem State.present_presc : s.present.presc = s.presc := rfl
@[simp] theorem State.present_mem : s.present.mem = s.mem := rfl
@[simp] theorem State.present_outTrace : s.present.outTrace = s.outTrace ++ [s.osr.extractLsb' 0 8] := rfl
@[simp] theorem State.present_pushTrace : s.present.pushTrace = s.pushTrace := rfl
@[simp] theorem State.present_busRdata : s.present.busRdata = s.busRdata := rfl
@[simp] theorem State.present_busAck : s.present.busAck = s.busAck := rfl
@[simp] theorem State.present_busErr : s.present.busErr = s.busErr := rfl
@[simp] theorem State.present_agenda : s.present.agenda = s.agenda := rfl
@[simp] theorem State.present_freeCtr : s.present.freeCtr = s.freeCtr := rfl
@[simp] theorem State.present_resets : s.present.resets = s.resets := rfl
@[simp] theorem State.present_genWait : s.present.genWait = s.genWait := rfl

/-! ### `State.quiesceBsu` -/

@[simp] theorem State.quiesceBsu_params : s.quiesceBsu.params = s.params := rfl
@[simp] theorem State.quiesceBsu_cmdReg : s.quiesceBsu.cmdReg = s.cmdReg := rfl
@[simp] theorem State.quiesceBsu_cmdBusy : s.quiesceBsu.cmdBusy = s.cmdBusy := rfl
@[simp] theorem State.quiesceBsu_seqPhase : s.quiesceBsu.seqPhase = s.seqPhase := rfl
@[simp] theorem State.quiesceBsu_seqIdx : s.quiesceBsu.seqIdx = s.seqIdx := rfl
@[simp] theorem State.quiesceBsu_started : s.quiesceBsu.started = s.started := rfl
@[simp] theorem State.quiesceBsu_bsuEn : s.quiesceBsu.bsuEn = false := rfl
@[simp] theorem State.quiesceBsu_divValid : s.quiesceBsu.divValid = s.divValid := rfl
@[simp] theorem State.quiesceBsu_err : s.quiesceBsu.err = s.err := rfl
@[simp] theorem State.quiesceBsu_freq : s.quiesceBsu.freq = s.freq := rfl
@[simp] theorem State.quiesceBsu_multIdx : s.quiesceBsu.multIdx = s.multIdx := rfl
@[simp] theorem State.quiesceBsu_divReg : s.quiesceBsu.divReg = s.divReg := rfl
@[simp] theorem State.quiesceBsu_shapeSel : s.quiesceBsu.shapeSel = s.shapeSel := rfl
@[simp] theorem State.quiesceBsu_genDone : s.quiesceBsu.genDone = s.genDone := rfl
@[simp] theorem State.quiesceBsu_chA : s.quiesceBsu.chA = s.chA := rfl
@[simp] theorem State.quiesceBsu_chB : s.quiesceBsu.chB = s.chB := rfl
@[simp] theorem State.quiesceBsu_txq : s.quiesceBsu.txq = s.txq := rfl
@[simp] theorem State.quiesceBsu_osr : s.quiesceBsu.osr = s.osr := rfl
@[simp] theorem State.quiesceBsu_osrCnt : s.quiesceBsu.osrCnt = s.osrCnt := rfl
@[simp] theorem State.quiesceBsu_pins : s.quiesceBsu.pins = s.pins := rfl
@[simp] theorem State.quiesceBsu_presc : s.quiesceBsu.presc = s.presc := rfl
@[simp] theorem State.quiesceBsu_mem : s.quiesceBsu.mem = s.mem := rfl
@[simp] theorem State.quiesceBsu_outTrace : s.quiesceBsu.outTrace = s.outTrace := rfl
@[simp] theorem State.quiesceBsu_pushTrace : s.quiesceBsu.pushTrace = s.pushTrace := rfl
@[simp] theorem State.quiesceBsu_busRdata : s.quiesceBsu.busRdata = s.busRdata := rfl
@[simp] theorem State.quiesceBsu_busAck : s.quiesceBsu.busAck = s.busAck := rfl
@[simp] theorem State.quiesceBsu_busErr : s.quiesceBsu.busErr = s.busErr := rfl
@[simp] theorem State.quiesceBsu_agenda : s.quiesceBsu.agenda = s.agenda := rfl
@[simp] theorem State.quiesceBsu_freeCtr : s.quiesceBsu.freeCtr = s.freeCtr := rfl
@[simp] theorem State.quiesceBsu_resets : s.quiesceBsu.resets = s.resets := rfl
@[simp] theorem State.quiesceBsu_genWait : s.quiesceBsu.genWait = s.genWait := rfl

/-! ### `State.resumeBsu` -/

@[simp] theorem State.resumeBsu_params : s.resumeBsu.params = s.params := rfl
@[simp] theorem State.resumeBsu_cmdReg : s.resumeBsu.cmdReg = s.cmdReg := rfl
@[simp] theorem State.resumeBsu_cmdBusy : s.resumeBsu.cmdBusy = s.cmdBusy := rfl
@[simp] theorem State.resumeBsu_seqPhase : s.resumeBsu.seqPhase = s.seqPhase := rfl
@[simp] theorem State.resumeBsu_seqIdx : s.resumeBsu.seqIdx = s.seqIdx := rfl
@[simp] theorem State.resumeBsu_started : s.resumeBsu.started = s.started := rfl
@[simp] theorem State.resumeBsu_bsuEn : s.resumeBsu.bsuEn = s.started := rfl
@[simp] theorem State.resumeBsu_divValid : s.resumeBsu.divValid = s.divValid := rfl
@[simp] theorem State.resumeBsu_err : s.resumeBsu.err = s.err := rfl
@[simp] theorem State.resumeBsu_freq : s.resumeBsu.freq = s.freq := rfl
@[simp] theorem State.resumeBsu_multIdx : s.resumeBsu.multIdx = s.multIdx := rfl
@[simp] theorem State.resumeBsu_divReg : s.resumeBsu.divReg = s.divReg := rfl
@[simp] theorem State.resumeBsu_shapeSel : s.resumeBsu.shapeSel = s.shapeSel := rfl
@[simp] theorem State.resumeBsu_genDone : s.resumeBsu.genDone = s.genDone := rfl
@[simp] theorem State.resumeBsu_chA : s.resumeBsu.chA = s.chA := rfl
@[simp] theorem State.resumeBsu_chB : s.resumeBsu.chB = s.chB := rfl
@[simp] theorem State.resumeBsu_txq : s.resumeBsu.txq = s.txq := rfl
@[simp] theorem State.resumeBsu_osr : s.resumeBsu.osr = s.osr := rfl
@[simp] theorem State.resumeBsu_osrCnt : s.resumeBsu.osrCnt = s.osrCnt := rfl
@[simp] theorem State.resumeBsu_pins : s.resumeBsu.pins = s.pins := rfl
@[simp] theorem State.resumeBsu_presc : s.resumeBsu.presc = s.presc := rfl
@[simp] theorem State.resumeBsu_mem : s.resumeBsu.mem = s.mem := rfl
@[simp] theorem State.resumeBsu_outTrace : s.resumeBsu.outTrace = s.outTrace := rfl
@[simp] theorem State.resumeBsu_pushTrace : s.resumeBsu.pushTrace = s.pushTrace := rfl
@[simp] theorem State.resumeBsu_busRdata : s.resumeBsu.busRdata = s.busRdata := rfl
@[simp] theorem State.resumeBsu_busAck : s.resumeBsu.busAck = s.busAck := rfl
@[simp] theorem State.resumeBsu_busErr : s.resumeBsu.busErr = s.busErr := rfl
@[simp] theorem State.resumeBsu_agenda : s.resumeBsu.agenda = s.agenda := rfl
@[simp] theorem State.resumeBsu_freeCtr : s.resumeBsu.freeCtr = s.freeCtr := rfl
@[simp] theorem State.resumeBsu_resets : s.resumeBsu.resets = s.resets := rfl
@[simp] theorem State.resumeBsu_genWait : s.resumeBsu.genWait = s.genWait := rfl

/-! ### `State.accept` -/

@[simp] theorem State.accept_params (w : Word) : (s.accept w).params = s.params := rfl
@[simp] theorem State.accept_cmdReg (w : Word) : (s.accept w).cmdReg = w := rfl
@[simp] theorem State.accept_cmdBusy (w : Word) : (s.accept w).cmdBusy = true := rfl
@[simp] theorem State.accept_seqPhase (w : Word) : (s.accept w).seqPhase = .exec := rfl
@[simp] theorem State.accept_seqIdx (w : Word) : (s.accept w).seqIdx = s.seqIdx := rfl
@[simp] theorem State.accept_started (w : Word) : (s.accept w).started = s.started := rfl
@[simp] theorem State.accept_bsuEn (w : Word) : (s.accept w).bsuEn = s.bsuEn := rfl
@[simp] theorem State.accept_divValid (w : Word) : (s.accept w).divValid = s.divValid := rfl
@[simp] theorem State.accept_err (w : Word) : (s.accept w).err = s.err := rfl
@[simp] theorem State.accept_freq (w : Word) : (s.accept w).freq = s.freq := rfl
@[simp] theorem State.accept_multIdx (w : Word) : (s.accept w).multIdx = s.multIdx := rfl
@[simp] theorem State.accept_divReg (w : Word) : (s.accept w).divReg = s.divReg := rfl
@[simp] theorem State.accept_shapeSel (w : Word) : (s.accept w).shapeSel = s.shapeSel := rfl
@[simp] theorem State.accept_genDone (w : Word) : (s.accept w).genDone = s.genDone := rfl
@[simp] theorem State.accept_chA (w : Word) : (s.accept w).chA = s.chA := rfl
@[simp] theorem State.accept_chB (w : Word) : (s.accept w).chB = s.chB := rfl
@[simp] theorem State.accept_txq (w : Word) : (s.accept w).txq = s.txq := rfl
@[simp] theorem State.accept_osr (w : Word) : (s.accept w).osr = s.osr := rfl
@[simp] theorem State.accept_osrCnt (w : Word) : (s.accept w).osrCnt = s.osrCnt := rfl
@[simp] theorem State.accept_pins (w : Word) : (s.accept w).pins = s.pins := rfl
@[simp] theorem State.accept_presc (w : Word) : (s.accept w).presc = s.presc := rfl
@[simp] theorem State.accept_mem (w : Word) : (s.accept w).mem = s.mem := rfl
@[simp] theorem State.accept_outTrace (w : Word) : (s.accept w).outTrace = s.outTrace := rfl
@[simp] theorem State.accept_pushTrace (w : Word) : (s.accept w).pushTrace = s.pushTrace := rfl
@[simp] theorem State.accept_busRdata (w : Word) : (s.accept w).busRdata = s.busRdata := rfl
@[simp] theorem State.accept_busAck (w : Word) : (s.accept w).busAck = s.busAck := rfl
@[simp] theorem State.accept_busErr (w : Word) : (s.accept w).busErr = s.busErr := rfl
@[simp] theorem State.accept_agenda (w : Word) : (s.accept w).agenda = s.agenda := rfl
@[simp] theorem State.accept_freeCtr (w : Word) : (s.accept w).freeCtr = s.freeCtr := rfl
@[simp] theorem State.accept_resets (w : Word) : (s.accept w).resets = s.resets := rfl
@[simp] theorem State.accept_genWait (w : Word) : (s.accept w).genWait = s.genWait := rfl

/-! ### `State.busIdle` -/

@[simp] theorem State.busIdle_params : s.busIdle.params = s.params := rfl
@[simp] theorem State.busIdle_cmdReg : s.busIdle.cmdReg = s.cmdReg := rfl
@[simp] theorem State.busIdle_cmdBusy : s.busIdle.cmdBusy = s.cmdBusy := rfl
@[simp] theorem State.busIdle_seqPhase : s.busIdle.seqPhase = s.seqPhase := rfl
@[simp] theorem State.busIdle_seqIdx : s.busIdle.seqIdx = s.seqIdx := rfl
@[simp] theorem State.busIdle_started : s.busIdle.started = s.started := rfl
@[simp] theorem State.busIdle_bsuEn : s.busIdle.bsuEn = s.bsuEn := rfl
@[simp] theorem State.busIdle_divValid : s.busIdle.divValid = s.divValid := rfl
@[simp] theorem State.busIdle_err : s.busIdle.err = s.err := rfl
@[simp] theorem State.busIdle_freq : s.busIdle.freq = s.freq := rfl
@[simp] theorem State.busIdle_multIdx : s.busIdle.multIdx = s.multIdx := rfl
@[simp] theorem State.busIdle_divReg : s.busIdle.divReg = s.divReg := rfl
@[simp] theorem State.busIdle_shapeSel : s.busIdle.shapeSel = s.shapeSel := rfl
@[simp] theorem State.busIdle_genDone : s.busIdle.genDone = s.genDone := rfl
@[simp] theorem State.busIdle_chA : s.busIdle.chA = s.chA := rfl
@[simp] theorem State.busIdle_chB : s.busIdle.chB = s.chB := rfl
@[simp] theorem State.busIdle_txq : s.busIdle.txq = s.txq := rfl
@[simp] theorem State.busIdle_osr : s.busIdle.osr = s.osr := rfl
@[simp] theorem State.busIdle_osrCnt : s.busIdle.osrCnt = s.osrCnt := rfl
@[simp] theorem State.busIdle_pins : s.busIdle.pins = s.pins := rfl
@[simp] theorem State.busIdle_presc : s.busIdle.presc = s.presc := rfl
@[simp] theorem State.busIdle_mem : s.busIdle.mem = s.mem := rfl
@[simp] theorem State.busIdle_outTrace : s.busIdle.outTrace = s.outTrace := rfl
@[simp] theorem State.busIdle_pushTrace : s.busIdle.pushTrace = s.pushTrace := rfl
@[simp] theorem State.busIdle_busRdata : s.busIdle.busRdata = s.busRdata := rfl
@[simp] theorem State.busIdle_busAck : s.busIdle.busAck = false := rfl
@[simp] theorem State.busIdle_busErr : s.busIdle.busErr = false := rfl
@[simp] theorem State.busIdle_agenda : s.busIdle.agenda = s.agenda := rfl
@[simp] theorem State.busIdle_freeCtr : s.busIdle.freeCtr = s.freeCtr := rfl
@[simp] theorem State.busIdle_resets : s.busIdle.resets = s.resets := rfl
@[simp] theorem State.busIdle_genWait : s.busIdle.genWait = s.genWait := rfl

/-! ### `State.setChan` -/

@[simp] theorem State.setChan_params (x : Chan) (c : Channel) : (s.setChan x c).params = s.params := by cases x <;> rfl
@[simp] theorem State.setChan_cmdReg (x : Chan) (c : Channel) : (s.setChan x c).cmdReg = s.cmdReg := by cases x <;> rfl
@[simp] theorem State.setChan_cmdBusy (x : Chan) (c : Channel) : (s.setChan x c).cmdBusy = s.cmdBusy := by cases x <;> rfl
@[simp] theorem State.setChan_seqPhase (x : Chan) (c : Channel) : (s.setChan x c).seqPhase = s.seqPhase := by cases x <;> rfl
@[simp] theorem State.setChan_seqIdx (x : Chan) (c : Channel) : (s.setChan x c).seqIdx = s.seqIdx := by cases x <;> rfl
@[simp] theorem State.setChan_started (x : Chan) (c : Channel) : (s.setChan x c).started = s.started := by cases x <;> rfl
@[simp] theorem State.setChan_bsuEn (x : Chan) (c : Channel) : (s.setChan x c).bsuEn = s.bsuEn := by cases x <;> rfl
@[simp] theorem State.setChan_divValid (x : Chan) (c : Channel) : (s.setChan x c).divValid = s.divValid := by cases x <;> rfl
@[simp] theorem State.setChan_err (x : Chan) (c : Channel) : (s.setChan x c).err = s.err := by cases x <;> rfl
@[simp] theorem State.setChan_freq (x : Chan) (c : Channel) : (s.setChan x c).freq = s.freq := by cases x <;> rfl
@[simp] theorem State.setChan_multIdx (x : Chan) (c : Channel) : (s.setChan x c).multIdx = s.multIdx := by cases x <;> rfl
@[simp] theorem State.setChan_divReg (x : Chan) (c : Channel) : (s.setChan x c).divReg = s.divReg := by cases x <;> rfl
@[simp] theorem State.setChan_shapeSel (x : Chan) (c : Channel) : (s.setChan x c).shapeSel = s.shapeSel := by cases x <;> rfl
@[simp] theorem State.setChan_genDone (x : Chan) (c : Channel) : (s.setChan x c).genDone = s.genDone := by cases x <;> rfl
@[simp] theorem State.setChan_txq (x : Chan) (c : Channel) : (s.setChan x c).txq = s.txq := by cases x <;> rfl
@[simp] theorem State.setChan_osr (x : Chan) (c : Channel) : (s.setChan x c).osr = s.osr := by cases x <;> rfl
@[simp] theorem State.setChan_osrCnt (x : Chan) (c : Channel) : (s.setChan x c).osrCnt = s.osrCnt := by cases x <;> rfl
@[simp] theorem State.setChan_pins (x : Chan) (c : Channel) : (s.setChan x c).pins = s.pins := by cases x <;> rfl
@[simp] theorem State.setChan_presc (x : Chan) (c : Channel) : (s.setChan x c).presc = s.presc := by cases x <;> rfl
@[simp] theorem State.setChan_mem (x : Chan) (c : Channel) : (s.setChan x c).mem = s.mem := by cases x <;> rfl
@[simp] theorem State.setChan_outTrace (x : Chan) (c : Channel) : (s.setChan x c).outTrace = s.outTrace := by cases x <;> rfl
@[simp] theorem State.setChan_pushTrace (x : Chan) (c : Channel) : (s.setChan x c).pushTrace = s.pushTrace := by cases x <;> rfl
@[simp] theorem State.setChan_busRdata (x : Chan) (c : Channel) : (s.setChan x c).busRdata = s.busRdata := by cases x <;> rfl
@[simp] theorem State.setChan_busAck (x : Chan) (c : Channel) : (s.setChan x c).busAck = s.busAck := by cases x <;> rfl
@[simp] theorem State.setChan_busErr (x : Chan) (c : Channel) : (s.setChan x c).busErr = s.busErr := by cases x <;> rfl
@[simp] theorem State.setChan_agenda (x : Chan) (c : Channel) : (s.setChan x c).agenda = s.agenda := by cases x <;> rfl
@[simp] theorem State.setChan_freeCtr (x : Chan) (c : Channel) : (s.setChan x c).freeCtr = s.freeCtr := by cases x <;> rfl
@[simp] theorem State.setChan_resets (x : Chan) (c : Channel) : (s.setChan x c).resets = s.resets := by cases x <;> rfl
@[simp] theorem State.setChan_genWait (x : Chan) (c : Channel) : (s.setChan x c).genWait = s.genWait := by cases x <;> rfl

/-! ### `State.trigger` -/

@[simp] theorem State.trigger_params (x : Chan) : (s.trigger x).params = s.params := by cases x <;> rfl
@[simp] theorem State.trigger_cmdReg (x : Chan) : (s.trigger x).cmdReg = s.cmdReg := by cases x <;> rfl
@[simp] theorem State.trigger_cmdBusy (x : Chan) : (s.trigger x).cmdBusy = s.cmdBusy := by cases x <;> rfl
@[simp] theorem State.trigger_seqPhase (x : Chan) : (s.trigger x).seqPhase = s.seqPhase := by cases x <;> rfl
@[simp] theorem State.trigger_seqIdx (x : Chan) : (s.trigger x).seqIdx = s.seqIdx := by cases x <;> rfl
@[simp] theorem State.trigger_started (x : Chan) : (s.trigger x).started = s.started := by cases x <;> rfl
@[simp] theorem State.trigger_bsuEn (x : Chan) : (s.trigger x).bsuEn = s.bsuEn := by cases x <;> rfl
@[simp] theorem State.trigger_divValid (x : Chan) : (s.trigger x).divValid = s.divValid := by cases x <;> rfl
@[simp] theorem State.trigger_err (x : Chan) : (s.trigger x).err = s.err := by cases x <;> rfl
@[simp] theorem State.trigger_freq (x : Chan) : (s.trigger x).freq = s.freq := by cases x <;> rfl
@[simp] theorem State.trigger_multIdx (x : Chan) : (s.trigger x).multIdx = s.multIdx := by cases x <;> rfl
@[simp] theorem State.trigger_divReg (x : Chan) : (s.trigger x).divReg = s.divReg := by cases x <;> rfl
@[simp] theorem State.trigger_shapeSel (x : Chan) : (s.trigger x).shapeSel = s.shapeSel := by cases x <;> rfl
@[simp] theorem State.trigger_genDone (x : Chan) : (s.trigger x).genDone = s.genDone := by cases x <;> rfl
@[simp] theorem State.trigger_txq (x : Chan) : (s.trigger x).txq = s.txq := by cases x <;> rfl
@[simp] theorem State.trigger_osr (x : Chan) : (s.trigger x).osr = s.osr := by cases x <;> rfl
@[simp] theorem State.trigger_osrCnt (x : Chan) : (s.trigger x).osrCnt = s.osrCnt := by cases x <;> rfl
@[simp] theorem State.trigger_pins (x : Chan) : (s.trigger x).pins = s.pins := by cases x <;> rfl
@[simp] theorem State.trigger_presc (x : Chan) : (s.trigger x).presc = s.presc := by cases x <;> rfl
@[simp] theorem State.trigger_mem (x : Chan) : (s.trigger x).mem = s.mem := by cases x <;> rfl
@[simp] theorem State.trigger_outTrace (x : Chan) : (s.trigger x).outTrace = s.outTrace := by cases x <;> rfl
@[simp] theorem State.trigger_pushTrace (x : Chan) : (s.trigger x).pushTrace = s.pushTrace := by cases x <;> rfl
@[simp] theorem State.trigger_busRdata (x : Chan) : (s.trigger x).busRdata = s.busRdata := by cases x <;> rfl
@[simp] theorem State.trigger_busAck (x : Chan) : (s.trigger x).busAck = s.busAck := by cases x <;> rfl
@[simp] theorem State.trigger_busErr (x : Chan) : (s.trigger x).busErr = s.busErr := by cases x <;> rfl
@[simp] theorem State.trigger_agenda (x : Chan) : (s.trigger x).agenda = s.agenda := by cases x <;> rfl
@[simp] theorem State.trigger_freeCtr (x : Chan) : (s.trigger x).freeCtr = s.freeCtr := by cases x <;> rfl
@[simp] theorem State.trigger_resets (x : Chan) : (s.trigger x).resets = s.resets := by cases x <;> rfl
@[simp] theorem State.trigger_genWait (x : Chan) : (s.trigger x).genWait = s.genWait := by cases x <;> rfl

/-- Channel `y` after a write to channel `x`'s descriptor. -/
@[simp] theorem State.setChan_chan (x y : Chan) (c : Channel) :
    (s.setChan x c).chan y = if y = x then c else s.chan y := by cases x <;> cases y <;> rfl

/-- Channel `y` after `trigger(x)` (R194). -/
@[simp] theorem State.trigger_chan (x y : Chan) :
    (s.trigger x).chan y =
      if y = x then { s.chan x with transCount := (s.chan x).countReload,
                                    ctrl := { (s.chan x).ctrl with en := true, busy := true } }
      else s.chan y := by cases x <;> cases y <;> rfl

/-- `trigger(A)` leaves Channel B alone. -/
@[simp] theorem State.trigger_a_chB : (s.trigger .a).chB = s.chB := rfl

/-- `trigger(B)` leaves Channel A alone. -/
@[simp] theorem State.trigger_b_chA : (s.trigger .b).chA = s.chA := rfl

/-! ### `State.pushTxq` -/

@[simp] theorem State.pushTxq_params (v : Word) : (s.pushTxq v).params = s.params := by unfold State.pushTxq; split <;> rfl
@[simp] theorem State.pushTxq_cmdReg (v : Word) : (s.pushTxq v).cmdReg = s.cmdReg := by unfold State.pushTxq; split <;> rfl
@[simp] theorem State.pushTxq_cmdBusy (v : Word) : (s.pushTxq v).cmdBusy = s.cmdBusy := by unfold State.pushTxq; split <;> rfl
@[simp] theorem State.pushTxq_seqPhase (v : Word) : (s.pushTxq v).seqPhase = s.seqPhase := by unfold State.pushTxq; split <;> rfl
@[simp] theorem State.pushTxq_seqIdx (v : Word) : (s.pushTxq v).seqIdx = s.seqIdx := by unfold State.pushTxq; split <;> rfl
@[simp] theorem State.pushTxq_started (v : Word) : (s.pushTxq v).started = s.started := by unfold State.pushTxq; split <;> rfl
@[simp] theorem State.pushTxq_bsuEn (v : Word) : (s.pushTxq v).bsuEn = s.bsuEn := by unfold State.pushTxq; split <;> rfl
@[simp] theorem State.pushTxq_divValid (v : Word) : (s.pushTxq v).divValid = s.divValid := by unfold State.pushTxq; split <;> rfl
@[simp] theorem State.pushTxq_err (v : Word) : (s.pushTxq v).err = s.err := by unfold State.pushTxq; split <;> rfl
@[simp] theorem State.pushTxq_freq (v : Word) : (s.pushTxq v).freq = s.freq := by unfold State.pushTxq; split <;> rfl
@[simp] theorem State.pushTxq_multIdx (v : Word) : (s.pushTxq v).multIdx = s.multIdx := by unfold State.pushTxq; split <;> rfl
@[simp] theorem State.pushTxq_divReg (v : Word) : (s.pushTxq v).divReg = s.divReg := by unfold State.pushTxq; split <;> rfl
@[simp] theorem State.pushTxq_shapeSel (v : Word) : (s.pushTxq v).shapeSel = s.shapeSel := by unfold State.pushTxq; split <;> rfl
@[simp] theorem State.pushTxq_genDone (v : Word) : (s.pushTxq v).genDone = s.genDone := by unfold State.pushTxq; split <;> rfl
@[simp] theorem State.pushTxq_chA (v : Word) : (s.pushTxq v).chA = s.chA := by unfold State.pushTxq; split <;> rfl
@[simp] theorem State.pushTxq_chB (v : Word) : (s.pushTxq v).chB = s.chB := by unfold State.pushTxq; split <;> rfl
@[simp] theorem State.pushTxq_osr (v : Word) : (s.pushTxq v).osr = s.osr := by unfold State.pushTxq; split <;> rfl
@[simp] theorem State.pushTxq_osrCnt (v : Word) : (s.pushTxq v).osrCnt = s.osrCnt := by unfold State.pushTxq; split <;> rfl
@[simp] theorem State.pushTxq_pins (v : Word) : (s.pushTxq v).pins = s.pins := by unfold State.pushTxq; split <;> rfl
@[simp] theorem State.pushTxq_presc (v : Word) : (s.pushTxq v).presc = s.presc := by unfold State.pushTxq; split <;> rfl
@[simp] theorem State.pushTxq_mem (v : Word) : (s.pushTxq v).mem = s.mem := by unfold State.pushTxq; split <;> rfl
@[simp] theorem State.pushTxq_outTrace (v : Word) : (s.pushTxq v).outTrace = s.outTrace := by unfold State.pushTxq; split <;> rfl
@[simp] theorem State.pushTxq_busRdata (v : Word) : (s.pushTxq v).busRdata = s.busRdata := by unfold State.pushTxq; split <;> rfl
@[simp] theorem State.pushTxq_busAck (v : Word) : (s.pushTxq v).busAck = s.busAck := by unfold State.pushTxq; split <;> rfl
@[simp] theorem State.pushTxq_busErr (v : Word) : (s.pushTxq v).busErr = s.busErr := by unfold State.pushTxq; split <;> rfl
@[simp] theorem State.pushTxq_agenda (v : Word) : (s.pushTxq v).agenda = s.agenda := by unfold State.pushTxq; split <;> rfl
@[simp] theorem State.pushTxq_freeCtr (v : Word) : (s.pushTxq v).freeCtr = s.freeCtr := by unfold State.pushTxq; split <;> rfl
@[simp] theorem State.pushTxq_resets (v : Word) : (s.pushTxq v).resets = s.resets := by unfold State.pushTxq; split <;> rfl
@[simp] theorem State.pushTxq_genWait (v : Word) : (s.pushTxq v).genWait = s.genWait := by unfold State.pushTxq; split <;> rfl

/-! ### `State.refill` -/

@[simp] theorem State.refill_params : s.refill.params = s.params := by unfold State.refill; split <;> [split; skip] <;> rfl
@[simp] theorem State.refill_cmdReg : s.refill.cmdReg = s.cmdReg := by unfold State.refill; split <;> [split; skip] <;> rfl
@[simp] theorem State.refill_cmdBusy : s.refill.cmdBusy = s.cmdBusy := by unfold State.refill; split <;> [split; skip] <;> rfl
@[simp] theorem State.refill_seqPhase : s.refill.seqPhase = s.seqPhase := by unfold State.refill; split <;> [split; skip] <;> rfl
@[simp] theorem State.refill_seqIdx : s.refill.seqIdx = s.seqIdx := by unfold State.refill; split <;> [split; skip] <;> rfl
@[simp] theorem State.refill_started : s.refill.started = s.started := by unfold State.refill; split <;> [split; skip] <;> rfl
@[simp] theorem State.refill_bsuEn : s.refill.bsuEn = s.bsuEn := by unfold State.refill; split <;> [split; skip] <;> rfl
@[simp] theorem State.refill_divValid : s.refill.divValid = s.divValid := by unfold State.refill; split <;> [split; skip] <;> rfl
@[simp] theorem State.refill_err : s.refill.err = s.err := by unfold State.refill; split <;> [split; skip] <;> rfl
@[simp] theorem State.refill_freq : s.refill.freq = s.freq := by unfold State.refill; split <;> [split; skip] <;> rfl
@[simp] theorem State.refill_multIdx : s.refill.multIdx = s.multIdx := by unfold State.refill; split <;> [split; skip] <;> rfl
@[simp] theorem State.refill_divReg : s.refill.divReg = s.divReg := by unfold State.refill; split <;> [split; skip] <;> rfl
@[simp] theorem State.refill_shapeSel : s.refill.shapeSel = s.shapeSel := by unfold State.refill; split <;> [split; skip] <;> rfl
@[simp] theorem State.refill_genDone : s.refill.genDone = s.genDone := by unfold State.refill; split <;> [split; skip] <;> rfl
@[simp] theorem State.refill_chA : s.refill.chA = s.chA := by unfold State.refill; split <;> [split; skip] <;> rfl
@[simp] theorem State.refill_chB : s.refill.chB = s.chB := by unfold State.refill; split <;> [split; skip] <;> rfl
@[simp] theorem State.refill_pins : s.refill.pins = s.pins := by unfold State.refill; split <;> [split; skip] <;> rfl
@[simp] theorem State.refill_presc : s.refill.presc = s.presc := by unfold State.refill; split <;> [split; skip] <;> rfl
@[simp] theorem State.refill_mem : s.refill.mem = s.mem := by unfold State.refill; split <;> [split; skip] <;> rfl
@[simp] theorem State.refill_outTrace : s.refill.outTrace = s.outTrace := by unfold State.refill; split <;> [split; skip] <;> rfl
@[simp] theorem State.refill_pushTrace : s.refill.pushTrace = s.pushTrace := by unfold State.refill; split <;> [split; skip] <;> rfl
@[simp] theorem State.refill_busRdata : s.refill.busRdata = s.busRdata := by unfold State.refill; split <;> [split; skip] <;> rfl
@[simp] theorem State.refill_busAck : s.refill.busAck = s.busAck := by unfold State.refill; split <;> [split; skip] <;> rfl
@[simp] theorem State.refill_busErr : s.refill.busErr = s.busErr := by unfold State.refill; split <;> [split; skip] <;> rfl
@[simp] theorem State.refill_agenda : s.refill.agenda = s.agenda := by unfold State.refill; split <;> [split; skip] <;> rfl
@[simp] theorem State.refill_freeCtr : s.refill.freeCtr = s.freeCtr := by unfold State.refill; split <;> [split; skip] <;> rfl
@[simp] theorem State.refill_resets : s.refill.resets = s.resets := by unfold State.refill; split <;> [split; skip] <;> rfl
@[simp] theorem State.refill_genWait : s.refill.genWait = s.genWait := by unfold State.refill; split <;> [split; skip] <;> rfl

end Sys2Proof.Machine
end

