-- ==== Sys2Proof/Laws/Encoding.lean ====
section
/-! SUPPORT. The fields of a command word: a word is the concatenation of its format's fields, and matches its row of
spec/30_encoding.md R94 exactly when its opcode and its must-be-zero bits do. -/

namespace Sys2Proof

/-- A bitwise and of concatenations is taken part by part. -/
theorem append_and_append {n m} (a c : BitVec n) (b d : BitVec m) : (a ++ b) &&& (c ++ d) = (a &&& c) ++ (b &&& d) := by
  refine BitVec.eq_of_getLsbD_eq fun i hi => ?_
  simp only [BitVec.getLsbD_and, BitVec.getLsbD_append]
  split <;> rfl

/-- Concatenations of equal widths are equal part by part. -/
theorem append_eq_append_iff {n m} {a c : BitVec n} {b d : BitVec m} : a ++ b = c ++ d ↔ a = c ∧ b = d := by
  constructor
  · intro h
    have hb : b = d := by
      refine BitVec.eq_of_getLsbD_eq fun i hi => ?_
      have := congrArg (·.getLsbD i) h
      simpa [BitVec.getLsbD_append, hi] using this
    refine ⟨?_, hb⟩
    refine BitVec.eq_of_getLsbD_eq fun i hi => ?_
    have := congrArg (·.getLsbD (i + m)) h
    simpa [BitVec.getLsbD_append] using this
  · rintro ⟨rfl, rfl⟩; rfl

/-- A word as its opcode and its 28 operand bits (format `F`, R92). -/
theorem word_eq_formatF (w : Word) : w = (opField w ++ w.extractLsb' 0 28 : BitVec 32) := by
  refine BitVec.eq_of_getLsbD_eq fun i hi => ?_
  simp only [opField, BitVec.getLsbD_append, BitVec.getLsbD_extractLsb']
  split
  · simp [*]
  · simp [show i - 28 < 4 by omega, show 28 + (i - 28) = i by omega]

/-- A word as the fields of format `S` (R92). -/
theorem word_eq_formatS (w : Word) : w = (opField w ++ w.extractLsb' 4 24 ++ w.extractLsb' 0 4 : BitVec 32) := by
  refine BitVec.eq_of_getLsbD_eq fun i hi => ?_
  simp only [opField, BitVec.getLsbD_append, BitVec.getLsbD_extractLsb']
  split
  · simp [*]
  · split
    · simp [show i - 4 < 24 by omega, show 4 + (i - 4) = i by omega]
    · simp [show i - 4 - 24 < 4 by omega, show 28 + (i - 4 - 24) = i by omega]

/-- A word as the fields of format `D` (R92). -/
theorem word_eq_formatD (w : Word) :
    w = (opField w ++ (dirField w).bit ++ w.extractLsb' 16 11 ++ w.extractLsb' 0 16 : BitVec 32) := by
  refine BitVec.eq_of_getLsbD_eq fun i hi => ?_
  simp only [opField, BitVec.getLsbD_append, BitVec.getLsbD_extractLsb']
  split
  · simp [*]
  · split
    · simp [show i - 16 < 11 by omega, show 16 + (i - 16) = i by omega]
    · split
      · obtain rfl : i = 27 := by omega
        simp only [dirField]; split <;> simp_all [Direction.bit]
      · simp [show i - 16 - 11 - 1 < 4 by omega, show 28 + (i - 16 - 11 - 1) = i by omega]

/-- A word as the fields of format `M` (R92). -/
theorem word_eq_formatM (w : Word) : w = (opField w ++ (dirField w).bit ++ w.extractLsb' 0 27 : BitVec 32) := by
  refine BitVec.eq_of_getLsbD_eq fun i hi => ?_
  simp only [opField, BitVec.getLsbD_append, BitVec.getLsbD_extractLsb']
  split
  · simp [*]
  · split
    · obtain rfl : i = 27 := by omega
      simp only [dirField]; split <;> simp_all [Direction.bit]
    · simp [show i - 27 - 1 < 4 by omega, show 28 + (i - 27 - 1) = i by omega]

/-- Match and mask of a format `F` row (R94). -/
theorem masked_formatF_iff (w : Word) (k : BitVec 4) :
    (w &&& 0xF0000000#32 = (k ++ 0#28 : BitVec 32)) ↔ opField w = k := by
  conv_lhs => rw [word_eq_formatF w, show (0xF0000000#32) = (15#4 ++ 0#28 : BitVec 32) from rfl]
  erw [append_and_append, append_eq_append_iff]
  rw [show (15#4) = BitVec.allOnes 4 from rfl, BitVec.and_allOnes]
  simp

/-- Match and mask of a format `Z` row (R94). -/
theorem masked_formatZ_iff (w : Word) (k : BitVec 4) :
    (w &&& 0xFFFFFFFF#32 = (k ++ 0#28 : BitVec 32)) ↔ opField w = k ∧ w.extractLsb' 0 28 = 0#28 := by
  conv_lhs => rw [word_eq_formatF w, show (0xFFFFFFFF#32) = (15#4 ++ BitVec.allOnes 28 : BitVec 32) from rfl]
  erw [append_and_append, append_eq_append_iff]
  rw [show (15#4) = BitVec.allOnes 4 from rfl, BitVec.and_allOnes, BitVec.and_allOnes]

/-- Match and mask of a format `S` row (R94). -/
theorem masked_formatS_iff (w : Word) (k : BitVec 4) :
    (w &&& 0xFFFFFFF0#32 = (k ++ 0#24 ++ 0#4 : BitVec 32)) ↔ opField w = k ∧ w.extractLsb' 4 24 = 0#24 := by
  conv_lhs => rw [word_eq_formatS w, show (0xFFFFFFF0#32) = (15#4 ++ BitVec.allOnes 24 ++ 0#4 : BitVec 32) from rfl]
  erw [append_and_append, append_and_append, append_eq_append_iff, append_eq_append_iff]
  rw [show (15#4) = BitVec.allOnes 4 from rfl, BitVec.and_allOnes, BitVec.and_allOnes]
  simp

/-- Match and mask of a format `D` row (R94). -/
theorem masked_formatD_iff (w : Word) (k : BitVec 4) :
    (w &&& 0xF7FF0000#32 = (k ++ 0#1 ++ 0#11 ++ 0#16 : BitVec 32)) ↔
      opField w = k ∧ w.extractLsb' 16 11 = 0#11 := by
  conv_lhs =>
    rw [word_eq_formatD w,
      show (0xF7FF0000#32) = (15#4 ++ 0#1 ++ BitVec.allOnes 11 ++ 0#16 : BitVec 32) from rfl]
  erw [append_and_append, append_and_append, append_and_append,
    append_eq_append_iff, append_eq_append_iff, append_eq_append_iff]
  rw [show (15#4) = BitVec.allOnes 4 from rfl, BitVec.and_allOnes, BitVec.and_allOnes]
  simp

/-- Match and mask of a format `M` row (R94). -/
theorem masked_formatM_iff (w : Word) (k : BitVec 4) :
    (w &&& 0xF7FFFFFF#32 = (k ++ 0#1 ++ 0#27 : BitVec 32)) ↔ opField w = k ∧ w.extractLsb' 0 27 = 0#27 := by
  conv_lhs => rw [word_eq_formatM w, show (0xF7FFFFFF#32) = (15#4 ++ 0#1 ++ BitVec.allOnes 27 : BitVec 32) from rfl]
  erw [append_and_append, append_and_append, append_eq_append_iff, append_eq_append_iff]
  rw [show (15#4) = BitVec.allOnes 4 from rfl, BitVec.and_allOnes, BitVec.and_allOnes]
  simp

/-- The opcode from its number. -/
theorem opField_of_toNat {w : Word} {k : Nat} (h : (opField w).toNat = k) : opField w = BitVec.ofNat 4 k := by
  subst h; simp

/-- `whenZero` accepts exactly when the bits are 0. -/
theorem whenZero_ok_iff {n : Nat} (b : BitVec n) (i j : Instr) : whenZero b i = .ok j ↔ b = 0#n ∧ i = j := by
  unfold whenZero
  split <;> simp_all

/-- The shape operand is `cmd[3:0]` (R93). -/
theorem shapeField_eq_mod (w : Word) : shapeField w = w.toNat % 16 := by
  simp [shapeField]

/-- The magnitude operand is `cmd[15:0]` (R93). -/
theorem magField_eq_mod (w : Word) : magField w = w.toNat % 65536 := by
  simp [magField]

/-- A word that decodes to `GENALL` or `WAVE` says which (R94). -/
theorem shapeField_of_decode_wave {w : Word} {sel : Nat} (h : decodeCmd w = .ok (.wave sel)) :
    shapeField w = sel := by
  unfold decodeCmd at h
  split at h <;> simp_all [formatZ, formatS, formatD, formatM, whenZero_ok_iff]

end Sys2Proof
end

