-- ==== Sys2Proof/Laws/Memory.lean ====
section
/-! SUPPORT. The memory laws: a write keeps the canonical form, a read after a write gives the value written, every
other byte is left alone, and a word is its four bytes. -/

namespace Sys2Proof.Machine

/-! ## Words and bytes (spec/30_encoding.md R99) -/

/-- Reassembling a word from its bytes. -/
@[simp] theorem pack4_wordByte (v : Word) :
    pack4 (wordByte v 0) (wordByte v 1) (wordByte v 2) (wordByte v 3) = v := by
  refine BitVec.eq_of_getLsbD_eq fun i hi => ?_
  simp only [pack4, wordByte, BitVec.getLsbD_append, BitVec.getLsbD_extractLsb']
  split
  · simp [show i < 8 by omega]
  · split
    · simp [show i - 8 < 8 by omega, show 8 + (i - 8) = i by omega]
    · split
      · simp [show i - 8 - 8 < 8 by omega, show 16 + (i - 8 - 8) = i by omega]
      · simp [show i - 8 - 8 - 8 < 8 by omega, show 24 + (i - 8 - 8 - 8) = i by omega]

/-- Byte 0 of a packed word. -/
@[simp] theorem wordByte_pack4_zero (b0 b1 b2 b3 : Byte) : wordByte (pack4 b0 b1 b2 b3) 0 = b0 := by
  ext i hi
  simp only [pack4, wordByte, BitVec.getElem_extractLsb', BitVec.getLsbD_append]
  simp [show i < 8 by omega]

/-- Byte 1 of a packed word. -/
@[simp] theorem wordByte_pack4_one (b0 b1 b2 b3 : Byte) : wordByte (pack4 b0 b1 b2 b3) 1 = b1 := by
  ext i hi
  simp only [pack4, wordByte, BitVec.getElem_extractLsb', BitVec.getLsbD_append]
  rw [if_neg (by omega), if_pos (by omega), show 8 * 1 + i - 8 = i by omega, BitVec.getLsbD_eq_getElem hi]

/-- Byte 2 of a packed word. -/
@[simp] theorem wordByte_pack4_two (b0 b1 b2 b3 : Byte) : wordByte (pack4 b0 b1 b2 b3) 2 = b2 := by
  ext i hi
  simp only [pack4, wordByte, BitVec.getElem_extractLsb', BitVec.getLsbD_append]
  rw [if_neg (by omega), if_neg (by omega), if_pos (by omega), show 8 * 2 + i - 8 - 8 = i by omega,
    BitVec.getLsbD_eq_getElem hi]

/-- Byte 3 of a packed word. -/
@[simp] theorem wordByte_pack4_three (b0 b1 b2 b3 : Byte) : wordByte (pack4 b0 b1 b2 b3) 3 = b3 := by
  ext i hi
  simp only [pack4, wordByte, BitVec.getElem_extractLsb', BitVec.getLsbD_append]
  rw [if_neg (by omega), if_neg (by omega), if_neg (by omega), show 8 * 3 + i - 8 - 8 - 8 = i by omega,
    BitVec.getLsbD_eq_getElem hi]

/-! ## The canonical form -/

/-- An insertion lists no address but the old ones and the one written. -/
theorem Memory.mem_insert {m : List Host.Cell} {a : Nat} {v : Byte} {c : Host.Cell}
    (h : c ∈ Memory.insert m a v) : c = (a, v) ∨ c ∈ m := by
  induction m with
  | nil => simpa [Memory.insert] using h
  | cons x rest ih =>
    simp only [Memory.insert] at h
    split at h
    · simpa using h
    · split at h
      · rcases List.mem_cons.1 h with h | h
        · exact .inl h
        · exact .inr (List.mem_cons_of_mem _ h)
      · rcases List.mem_cons.1 h with h | h
        · exact .inr (h ▸ List.mem_cons_self)
        · exact (ih h).imp id (List.mem_cons_of_mem _)

/-- A byte write keeps the canonical form. -/
theorem Memory.insert_wf {m : List Host.Cell} (h : Memory.wf m) (a : Nat) (v : Byte) :
    Memory.wf (Memory.insert m a v) := by
  induction m with
  | nil => simp [Memory.insert]
  | cons x rest ih =>
    obtain ⟨hx, hr⟩ := List.pairwise_cons.1 h
    simp only [Memory.insert]
    split
    · rename_i hlt
      refine List.pairwise_cons.2 ⟨fun y hy => ?_, h⟩
      rcases List.mem_cons.1 hy with rfl | hy
      · exact hlt
      · exact Nat.lt_trans hlt (hx y hy)
    · split
      · rename_i heq
        exact List.pairwise_cons.2 ⟨fun y hy => heq ▸ hx y hy, hr⟩
      · refine List.pairwise_cons.2 ⟨fun y hy => ?_, ih hr⟩
        rcases Memory.mem_insert hy with rfl | hy
        · show x.1 < a; omega
        · exact hx y hy

/-- A word write keeps the canonical form. -/
theorem Memory.insertWord_wf {m : List Host.Cell} (h : Memory.wf m) (a : Nat) (v : Word) :
    Memory.wf (Memory.insertWord m a v) :=
  Memory.insert_wf (Memory.insert_wf (Memory.insert_wf (Memory.insert_wf h _ _) _ _) _ _) _ _

/-- Writing a run of words keeps the canonical form. -/
theorem Memory.insertWords_wf {m : List Host.Cell} (h : Memory.wf m) (a : Nat) (vs : List Word) :
    Memory.wf (Memory.insertWords m a vs) := by
  induction vs generalizing m a with
  | nil => exact h
  | cons v vs ih => exact ih (Memory.insertWord_wf h a v) _

/-- A word write lists no address but the old ones and those of the word. -/
theorem Memory.mem_insertWord {m : List Host.Cell} {a : Nat} {v : Word} {c : Host.Cell}
    (h : c ∈ Memory.insertWord m a v) : (a ≤ c.1 ∧ c.1 < a + 4) ∨ c ∈ m := by
  simp only [Memory.insertWord] at h
  rcases Memory.mem_insert h with rfl | h
  · left; simp
  rcases Memory.mem_insert h with rfl | h
  · left; simp
  rcases Memory.mem_insert h with rfl | h
  · left; simp
  rcases Memory.mem_insert h with rfl | h
  · left; simp
  · exact .inr h

/-- Writing a run of words lists no address but the old ones and those of the run. -/
theorem Memory.mem_insertWords {m : List Host.Cell} {a : Nat} {vs : List Word} {c : Host.Cell}
    (h : c ∈ Memory.insertWords m a vs) : (a ≤ c.1 ∧ c.1 < a + 4 * vs.length) ∨ c ∈ m := by
  induction vs generalizing m a with
  | nil => exact .inr h
  | cons v vs ih =>
    simp only [List.length_cons]
    rcases ih h with h | h
    · left; omega
    · rcases Memory.mem_insertWord h with h | h
      · left; omega
      · exact .inr h

/-- The memory after reset is in canonical form. -/
theorem State.reset_mem_wf : Memory.wf State.reset.mem := List.Pairwise.nil

/-! ## Reading after writing -/

/-- What a byte reads as after a byte write. -/
@[simp] theorem Memory.lookup_insert (m : List Host.Cell) (a b : Nat) (v : Byte) :
    Memory.lookup (Memory.insert m a v) b = if b = a then some v else Memory.lookup m b := by
  induction m with
  | nil => simp [Memory.insert, Memory.lookup]
  | cons x rest ih =>
    simp only [Memory.insert]
    split
    · simp [Memory.lookup]
    · split
      · subst_vars
        simp only [Memory.lookup]
        split <;> rfl
      · simp only [Memory.lookup, ih]
        split <;> split <;> first | rfl | omega

/-- What a byte reads as after a word write. -/
theorem State.byteAt_putWord (s : State) (a b : Nat) (v : Word) :
    (s.putWord a v).byteAt b = if a ≤ b ∧ b < a + 4 then wordByte v (b - a) else s.byteAt b := by
  simp only [State.byteAt, State.putWord_mem, State.putWord_resets, Memory.insertWord, Memory.lookup_insert]
  by_cases h : a ≤ b ∧ b < a + 4
  · rw [if_pos h]
    obtain rfl | rfl | rfl | rfl : b = a ∨ b = a + 1 ∨ b = a + 2 ∨ b = a + 3 := by omega
    all_goals simp
  · rw [if_neg h, if_neg (by omega), if_neg (by omega), if_neg (by omega), if_neg (by omega)]

/-- A word write leaves every byte outside the word alone. -/
theorem State.byteAt_putWord_outside (s : State) (a b : Nat) (v : Word) (h : b < a ∨ a + 4 ≤ b) :
    (s.putWord a v).byteAt b = s.byteAt b := by
  rw [State.byteAt_putWord, if_neg (by omega)]

/-- A word reads back as it was written. -/
@[simp] theorem State.wordAt_putWord_same (s : State) (a : Nat) (v : Word) : (s.putWord a v).wordAt a = v := by
  simp [State.wordAt, State.byteAt_putWord]

/-- A word write leaves every word that does not overlap it alone. -/
theorem State.wordAt_putWord_other (s : State) (a b : Nat) (v : Word) (h : b + 4 ≤ a ∨ a + 4 ≤ b) :
    (s.putWord a v).wordAt b = s.wordAt b := by
  simp only [State.wordAt]
  rw [State.byteAt_putWord_outside _ _ _ _ (by omega), State.byteAt_putWord_outside _ _ _ _ (by omega),
    State.byteAt_putWord_outside _ _ _ _ (by omega), State.byteAt_putWord_outside _ _ _ _ (by omega)]

/-- A run of words is the first word and then the rest. -/
theorem State.putWords_cons (s : State) (a : Nat) (v : Word) (vs : List Word) :
    s.putWords a (v :: vs) = (s.putWord a v).putWords (a + 4) vs := rfl

/-- Writing a run of words leaves every byte outside the run alone. -/
theorem State.byteAt_putWords_outside (s : State) (a b : Nat) (vs : List Word)
    (h : b < a ∨ a + 4 * vs.length ≤ b) : (s.putWords a vs).byteAt b = s.byteAt b := by
  induction vs generalizing s a with
  | nil => rfl
  | cons v vs ih =>
    simp only [List.length_cons] at h
    rw [State.putWords_cons, ih _ _ (by omega), State.byteAt_putWord_outside _ _ _ _ (by omega)]

/-- Writing a run of words leaves every word outside the run alone. -/
theorem State.wordAt_putWords_outside (s : State) (a b : Nat) (vs : List Word)
    (h : b + 4 ≤ a ∨ a + 4 * vs.length ≤ b) : (s.putWords a vs).wordAt b = s.wordAt b := by
  simp only [State.wordAt]
  rw [State.byteAt_putWords_outside _ _ _ _ (by omega), State.byteAt_putWords_outside _ _ _ _ (by omega),
    State.byteAt_putWords_outside _ _ _ _ (by omega), State.byteAt_putWords_outside _ _ _ _ (by omega)]

/-- Each word of a run reads back as it was written. -/
theorem State.wordAt_putWords (s : State) (a i : Nat) (vs : List Word) (h : i < vs.length) :
    (s.putWords a vs).wordAt (a + 4 * i) = vs[i] := by
  induction vs generalizing s a i with
  | nil => simp at h
  | cons v vs ih =>
    rw [State.putWords_cons]
    cases i with
    | zero =>
      rw [State.wordAt_putWords_outside _ _ _ _ (by omega)]
      simp
    | succ i =>
      rw [show a + 4 * (i + 1) = a + 4 + 4 * i by omega, ih _ _ _ (by simpa using h)]
      simp

/-- Two states with the same memory and the same number of resets read the same bytes. -/
theorem State.byteAt_congr {s t : State} (hm : t.mem = s.mem) (hr : t.resets = s.resets) (a : Nat) :
    t.byteAt a = s.byteAt a := by
  simp [State.byteAt, hm, hr]

/-- Two states with the same memory and the same number of resets read the same words. -/
theorem State.wordAt_congr {s t : State} (hm : t.mem = s.mem) (hr : t.resets = s.resets) (a : Nat) :
    t.wordAt a = s.wordAt a := by
  simp [State.wordAt, State.byteAt_congr hm hr]

end Sys2Proof.Machine
end

