-- ==== Sys2Proof/Laws/Ops.lean ====
section
/-! SUPPORT. One lemma per shared operation that says once everything it can do: raising an error, the queue, the
address map, the DMA master's accesses, the channels. -/

namespace Sys2Proof.Machine

/-! ## Errors (spec/60_exceptions.md R260, R261) -/

/-- After `raise e` the flag of `e` is set and every other flag is as before. -/
theorem State.hasErr_raise (s : State) (e e' : ErrCause) :
    (s.raise e).hasErr e' = (decide (e' = e) || s.hasErr e') := by
  cases e <;> cases e' <;> simp [State.hasErr, ErrCause.code, State.raise]

/-- A refused command's flag. -/
theorem State.hasErr_refuseCmd (s : State) (e e' : ErrCause) :
    (s.refuseCmd e).hasErr e' = (decide (e' = e) || s.hasErr e') := State.hasErr_raise s e e'

/-- A refused transaction's flag. -/
theorem State.hasErr_refuseBus (s : State) (e e' : ErrCause) :
    (s.refuseBus e).hasErr e' = (decide (e' = e) || s.hasErr e') := State.hasErr_raise s e e'

/-- The flags depend on `ERR` only. -/
theorem State.hasErr_congr {s t : State} (h : t.err = s.err) (e : ErrCause) : t.hasErr e = s.hasErr e := by
  simp [State.hasErr, h]

/-! ## Parameters (spec/00_scope.md R11) -/

/-- What legality says, clause by clause. -/
theorem Params.legal_iff (p : Params) : p.legal = true ↔
    0 < p.n ∧ p.n % 4 = 0 ∧ p.n ≤ 1024 ∧ 1 ≤ p.qdepth ∧ p.qdepth ≤ 16 ∧ 1 ≤ p.cHz ∧ p.cHz < 2 ^ 32 ∧
      20 ≤ p.fInit ∧ p.fInit ≤ 1000000 ∧ 1 ≤ p.divMax ∧ p.divMax ≤ 65535 ∧ p.multMax ≤ 7 ∧
      p.mult.length = p.multMax + 1 ∧ (p.n = 100 ∨ p.sineTable.length = p.n) ∧ 1 ≤ p.tGen := by
  simp only [Params.legal, Bool.and_eq_true, decide_eq_true_eq, and_assoc]
  exact Iff.rfl

/-- A legal table has 1 to 256 words of four samples (R10, R11). -/
theorem Params.words_of_legal {p : Params} (h : p.legal = true) :
    1 ≤ p.words ∧ p.words ≤ 256 ∧ p.n = 4 * p.words := by
  have := (Params.legal_iff p).1 h
  simp only [Params.words]
  omega

/-! ## The packed tables (spec/40_table_generator.md R130) -/

/-- A packed table has `W` words. -/
@[simp] theorem packedTable_length (p : Params) (sel : Nat) : (packedTable p sel).length = p.words := by
  simp [packedTable]

/-- Word `w` of a packed table. -/
@[simp] theorem packedTable_getElem (p : Params) (sel w : Nat) (h : w < (packedTable p sel).length) :
    (packedTable p sel)[w] = packedWord p sel w := by
  simp [packedTable]

/-- Generating a table writes its words. -/
theorem State.wordAt_generate (s : State) (sel w : Nat) (h : w < s.params.words) :
    (s.generate sel).wordAt (shapeBase sel + 4 * w) = packedWord s.params sel w := by
  have := State.wordAt_putWords s (shapeBase sel) w (packedTable s.params sel) (by simpa using h)
  rw [State.wordAt_congr (t := s.generate sel) (s := s.putWords (shapeBase sel) (packedTable s.params sel)) rfl rfl,
    this, packedTable_getElem]

/-- Generating a table leaves every byte outside its slot alone. -/
theorem State.byteAt_generate_outside (s : State) (sel b : Nat)
    (h : b < shapeBase sel ∨ shapeBase sel + 4 * s.params.words ≤ b) :
    (s.generate sel).byteAt b = s.byteAt b := by
  rw [State.byteAt_congr (t := s.generate sel) (s := s.putWords (shapeBase sel) (packedTable s.params sel)) rfl rfl,
    State.byteAt_putWords_outside _ _ _ _ (by simpa using h)]

/-- Generating a table leaves every word outside its slot alone. -/
theorem State.wordAt_generate_outside (s : State) (sel b : Nat)
    (h : b + 4 ≤ shapeBase sel ∨ shapeBase sel + 4 * s.params.words ≤ b) :
    (s.generate sel).wordAt b = s.wordAt b := by
  simp only [State.wordAt]
  rw [State.byteAt_generate_outside _ _ _ (by omega), State.byteAt_generate_outside _ _ _ (by omega),
    State.byteAt_generate_outside _ _ _ (by omega), State.byteAt_generate_outside _ _ _ (by omega)]

/-- `gen_done` after generating table `sel`. -/
theorem State.generated_generate (s : State) (sel i : Nat) (h : sel ≤ 12) :
    (s.generate sel).generated i = (decide (i = sel) || s.generated i) := by
  simp only [State.generated, State.generate_genDone, BitVec.getLsbD_or, BitVec.getLsbD_shiftLeft]
  by_cases hi : i = sel
  · subst hi
    simp [show i < 13 by omega]
  · simp only [hi, decide_false, Bool.false_or]
    by_cases hl : i < sel
    · simp [hl]
    · simp [BitVec.getLsbD_one, show i - sel ≠ 0 by omega]

/-! ## The address map (spec/20_memory.md R61) -/

/-- `TXQ_ADDR` is the queue port. -/
@[simp] theorem locate_txqAddr (p : Params) : locate p txqAddr = .txq := rfl

/-- `LIT_ADDR` is the literal. -/
@[simp] theorem locate_litAddr (p : Params) : locate p litAddr = .lit := rfl

/-- `0x0100` is `A.READ_ADDR`. -/
@[simp] theorem locate_aReadAddr (p : Params) : locate p aReadAddrAddr = .desc .a .readAddr := rfl

/-- An address above the single-word locations is not one of them. -/
theorem wordMap_lookup_high {a : Nat} (h : 0x304 ≤ a) : wordMap.lookup a = none := by
  simp only [wordMap, List.lookup]
  repeat' rw [show (a == _) = false from beq_eq_false_iff_ne.2 (by omega)]

/-- Above the single-word locations an aligned address is a table word or unmapped. -/
theorem locate_high {p : Params} {a : Nat} (h : 0x304 ≤ a) (h4 : a % 4 = 0) : locate p a = tableLoc p a := by
  rw [locate, if_pos h4, wordMap_lookup_high h]

/-- Word `w` of `ACTIVE`. -/
theorem locate_active {p : Params} {w : Nat} (h : w < p.words) : locate p (activeBase + 4 * w) = .active w := by
  have hb : activeBase = 0x8000 := rfl
  have hn : nShapes = 13 := rfl
  rw [locate_high (by omega) (by omega), tableLoc, if_neg (by omega), if_pos (by omega),
    show (activeBase + 4 * w - activeBase) / 4 = w by omega]

/-- Word `w` of `SHAPE_MEM[sel]`, for a table that fits its slot. -/
theorem locate_shapeMem {p : Params} {sel w : Nat} (hs : sel ≤ 12) (hw : w < p.words) (hp : p.words ≤ 256) :
    locate p (shapeBase sel + 4 * w) = .shapeMem sel w := by
  have hb : shapeBase sel = 0x4000 + 0x400 * sel := rfl
  have hn : nShapes = 13 := rfl
  rw [locate_high (by omega) (by omega), tableLoc, if_pos (by omega),
    show (shapeBase sel + 4 * w - 0x4000) / 0x400 = sel by omega,
    show (shapeBase sel + 4 * w - 0x4000) % 0x400 / 4 = w by omega]

/-! ## The queue (spec/42_bit_streaming_unit.md R171, spec/20_memory.md R66) -/

/-- A push into a queue with room. -/
theorem State.pushTxq_room {s : State} {v : Word} (h : s.txq.length < s.params.qdepth) :
    s.pushTxq v = { s with txq := s.txq ++ [v], pushTrace := s.pushTrace ++ [v] } := by
  rw [State.pushTxq, if_pos h]

/-- A push into a full queue is dropped. -/
theorem State.pushTxq_full {s : State} {v : Word} (h : ¬ s.txq.length < s.params.qdepth) : s.pushTxq v = s := by
  rw [State.pushTxq, if_neg h]

/-! ## The DMA master (spec/20_memory.md R62, R64) -/

/-- A DMA read leaves the state alone, or raises `E_BUS` and returns 0. -/
theorem State.dmaRead_cases (s : State) (addr : Word) :
    (s.dmaRead addr = (s.content addr.toNat (locate s.params addr.toNat), s) ∧
        (locate s.params addr.toNat).dmaReadable = true) ∨
      (s.dmaRead addr = (0#32, s.raise .bus) ∧ (locate s.params addr.toNat).dmaReadable = false) := by
  simp only [State.dmaRead]
  split
  · rename_i h; exact .inl ⟨rfl, h⟩
  · rename_i h; exact .inr ⟨rfl, by simpa using h⟩

/-- A DMA write pushes, writes `A.READ_ADDR`, or raises `E_BUS`. -/
theorem State.dmaWrite_cases (s : State) (addr v : Word) :
    s.dmaWrite addr v = s.pushTxq v ∨ s.dmaWrite addr v = { s with chA := { s.chA with readAddr := v } } ∨
      s.dmaWrite addr v = s.raise .bus := by
  simp only [State.dmaWrite]
  split <;> simp

/-- A DMA read of a word of `ACTIVE`. -/
theorem State.dmaRead_active {s : State} {addr : Word} {w : Nat} (h : addr.toNat = activeBase + 4 * w)
    (hw : w < s.params.words) : s.dmaRead addr = (s.wordAt (activeBase + 4 * w), s) := by
  simp only [State.dmaRead, h, locate_active hw]
  simp [Loc.dmaReadable, State.content]

/-- A DMA read of `LIT`. -/
theorem State.dmaRead_lit {s : State} {addr : Word} (h : addr = BitVec.ofNat 32 litAddr) :
    s.dmaRead addr = (s.wordAt litAddr, s) := by
  subst h
  rfl

/-- A DMA write to the queue port. -/
theorem State.dmaWrite_txq {s : State} {addr v : Word} (h : addr = BitVec.ofNat 32 txqAddr) :
    s.dmaWrite addr v = s.pushTxq v := by
  subst h
  rfl

/-- A DMA write to `A.READ_ADDR`. -/
theorem State.dmaWrite_aReadAddr {s : State} {addr v : Word} (h : addr = BitVec.ofNat 32 aReadAddrAddr) :
    s.dmaWrite addr v = { s with chA := { s.chA with readAddr := v } } := by
  subst h
  rfl

/-! ## Channels (spec/43_transfer_engine.md) -/

/-- Reading a channel by name. -/
@[simp] theorem State.chan_a (s : State) : s.chan .a = s.chA := rfl

/-- Reading a channel by name. -/
@[simp] theorem State.chan_b (s : State) : s.chan .b = s.chB := rfl

/-- The other channel. -/
@[simp] theorem Chan.other_a : Chan.a.other = .b := rfl

/-- The other channel. -/
@[simp] theorem Chan.other_b : Chan.b.other = .a := rfl

/-- Channel A's control word as `START` writes it (R97, R98). -/
@[simp] theorem channelA_ctrl (p : Params) : (channelA p).ctrl = decodeCtrl 0x0000001B#32 := by
  simp only [channelA]
  decide

/-- Channel B's control word as `START` writes it (R97, R98). -/
@[simp] theorem channelB_ctrl : channelB.ctrl = decodeCtrl 0x00000011#32 := by decide

end Sys2Proof.Machine
end

