-- ==== Sys2Proof/Laws/Commands.lean ====
section
/-! SUPPORT. What the operations behind the commands can do: the clamp and the steps of spec/41_clock_rate.md, the
Clock Rate Controller, the checks of `START`, and what a command word can decode to. -/

namespace Sys2Proof.Machine

/-- A command word decodes to no bus transaction (spec/30_encoding.md R94). -/
theorem decodeCmd_ne_bus {w : Word} {i : Instr} (h : decodeCmd w = .ok i) :
    (∀ a, i ≠ .rd a) ∧ ∀ a d, i ≠ .wr a d := by
  unfold decodeCmd at h
  split at h <;>
    simp only [formatZ, formatS, formatD, formatM, whenZero_ok_iff, Except.ok.injEq, reduceCtorEq] at h
  all_goals first
    | exact h.elim
    | (subst h; simp)
    | (obtain ⟨_, rfl⟩ := h; simp)

/-- The clamp stays in 20..1_000_000 (R153). -/
theorem clampF_range (v : Int) : 20 ≤ clampF v ∧ clampF v ≤ 1000000 := by
  have h1 : fMin = 20 := rfl
  have h2 : fMax = 1000000 := rfl
  simp only [clampF, h1, h2]
  split_ifs <;> omega

/-- The clamp as an integer (R153). -/
theorem clampF_eq (v : Int) : (clampF v : Int) = if v < 20 then 20 else if 1000000 < v then 1000000 else v := by
  have h1 : fMin = 20 := rfl
  have h2 : fMax = 1000000 := rfl
  simp only [clampF, h1, h2]
  split_ifs <;> omega

/-- A clamped frequency fits its twenty bits (R26). -/
theorem freqOf_toNat (v : Int) : (freqOf v).toNat = clampF v := by
  have := clampF_range v
  simp only [freqOf, BitVec.toNat_ofNat]
  omega

/-- The index after `MDELTA` (R156), for a `MULT_MAX` of three bits. -/
theorem steppedMult_toNat {p : Params} (h : p.multMax ≤ 7) (k : BitVec 3) (dir : Direction) :
    (steppedMult p k dir).toNat = match dir with
      | .up => min (k.toNat + 1) p.multMax
      | .down => k.toNat - 1 := by
  have := k.isLt
  cases dir <;> simp only [steppedMult, BitVec.toNat_ofNat] <;> omega

/-- The Clock Rate Controller writes a legal divisor (R157). -/
theorem State.applyDivisor_legal {s : State} (h : divisorLegal s.params s.wantedDivisor = true) :
    s.applyDivisor = some { s with divReg := BitVec.ofNat 16 s.wantedDivisor, divValid := true } := by
  rw [State.applyDivisor, if_pos h]

/-- The Clock Rate Controller does nothing with an illegal divisor (R157). -/
theorem State.applyDivisor_illegal {s : State} (h : divisorLegal s.params s.wantedDivisor = false) :
    s.applyDivisor = none := by
  rw [State.applyDivisor, if_neg (by simp [h])]

/-- Whatever the Clock Rate Controller does, only `DIV` and `DIV_VALID` change (R159). -/
theorem State.applyDivisor_frame {s t : State} (h : s.applyDivisor = some t) :
    t = { s with divReg := t.divReg, divValid := t.divValid } := by
  simp only [State.applyDivisor] at h
  split at h
  · injection h with h
    subst h
    rfl
  · cases h

/-- The checks of `START` change only the flags (R199). -/
theorem State.startChecks_frame (s : State) : s.startChecks = { s with err := s.startChecks.err } := by
  simp only [State.startChecks]
  split_ifs <;> rfl

/-- The flags after the checks of `START`: both causes at once when both hold (R199, R273). -/
theorem State.hasErr_startChecks (s : State) (e : ErrCause) :
    s.startChecks.hasErr e = (s.hasErr e || decide (e = .noTable ∧ s.shapeSel = noShape) ||
      decide (e = .noDiv ∧ s.divValid = false)) := by
  by_cases ha : s.shapeSel = noShape <;> by_cases hb : s.divValid = true <;>
    simp [State.startChecks, ha, hb, State.hasErr_raise] <;> cases e <;> simp

end Sys2Proof.Machine
end

