-- ==== Sys2Proof/Laws/Engine.lean ====
section
/-! SUPPORT. What one move of the channels, the BSU or the prescaler can do: each operation case by case. -/

namespace Sys2Proof.Machine

/-! ## The Bit-Streaming Unit (spec/42_bit_streaming_unit.md R172, R176) -/

/-- The tick on an empty shift register takes the head of the queue. -/
theorem State.bsuTick_refills {s : State} {v : Word} {rest : List Word} (h : s.osrCnt = 0#3) (hq : s.txq = v :: rest) :
    s.bsuTick = { s with txq := rest, pins := v.extractLsb' 0 8, osr := v >>> 8, osrCnt := 3#3,
                         outTrace := s.outTrace ++ [v.extractLsb' 0 8] } := by
  simp [State.bsuTick, State.refill, State.present, h, hq]

/-- The tick on a shift register that holds a byte. -/
theorem State.bsuTick_shifts {s : State} (h : s.osrCnt ≠ 0#3) :
    s.bsuTick = { s with pins := s.osr.extractLsb' 0 8, osr := s.osr >>> 8, osrCnt := s.osrCnt - 1#3,
                         outTrace := s.outTrace ++ [s.osr.extractLsb' 0 8] } := by
  simp [State.bsuTick, State.refill, State.present, h]

/-- Whatever the BSU's move does, only its own state changes. -/
theorem State.bsuMove_frame (s : State) :
    s.bsuMove = { s with txq := s.bsuMove.txq, osr := s.bsuMove.osr, osrCnt := s.bsuMove.osrCnt,
                         pins := s.bsuMove.pins, outTrace := s.bsuMove.outTrace } := by
  simp only [State.bsuMove, State.bsuTick, State.refill]
  split
  · split
    · split <;> rfl
    · rfl
  · rfl

/-- Whatever a clock edge does, only the BSU's state and the prescaler change. -/
theorem State.clockEdge_frame (s : State) :
    s.clockEdge = { s with txq := s.clockEdge.txq, osr := s.clockEdge.osr, osrCnt := s.clockEdge.osrCnt,
                           pins := s.clockEdge.pins, outTrace := s.clockEdge.outTrace,
                           presc := s.clockEdge.presc } := by
  unfold State.clockEdge
  split
  · split
    · rw [State.bsuMove_frame]
    · rfl
  · rfl

/-- The byte a shift leaves at position `j` was at position `j + 1`. -/
theorem wordByte_shiftRight (w : Word) (j : Nat) : wordByte (w >>> 8) j = wordByte w (j + 1) := by
  refine BitVec.eq_of_getLsbD_eq fun i hi => ?_
  simp [wordByte, hi, show 8 + (8 * j + i) = 8 * (j + 1) + i by omega]

/-! ## The control words (spec/30_encoding.md R98) -/

/-- Channel A's fields as `START` writes them. -/
theorem ctrlA_fields (b : Bool) : ({ decodeCtrl 0x0000001B#32 with busy := b } : Ctrl) =
    { en := true, incrRead := true, incrWrite := false, pace := true, chainEn := true, busy := b } := by
  cases b <;> decide

/-- Channel B's fields as `START` writes them. -/
theorem ctrlB_fields (b : Bool) : ({ decodeCtrl 0x00000011#32 with busy := b } : Ctrl) =
    { en := true, incrRead := false, incrWrite := false, pace := false, chainEn := true, busy := b } := by
  cases b <;> decide

/-! ## The channels (spec/43_transfer_engine.md R191 to R196) -/

/-- A channel with no enabled step changes nothing. -/
theorem State.chanMove_idle {s : State} {x : Chan} (h1 : s.chanReady x = false) (h2 : s.chanEmptyReady x = false) :
    s.chanMove x = s := by
  simp [State.chanMove, h1, h2]

/-- A channel with its transfer step enabled takes it. -/
theorem State.chanMove_ready {s : State} {x : Chan} (h : s.chanReady x = true) : s.chanMove x = s.chanStep x := by
  simp [State.chanMove, h]

/-- A channel that is not busy has no enabled step. -/
theorem State.chanMove_dormant {s : State} {x : Chan} (h : (s.chan x).ctrl.busy = false) : s.chanMove x = s :=
  State.chanMove_idle (by simp [State.chanReady, h]) (by simp [State.chanEmptyReady, h])

/-- A paced channel with transfers left waits while the queue is full. -/
theorem State.chanMove_full {s : State} {x : Chan} (hp : (s.chan x).ctrl.pace = true)
    (hc : (s.chan x).transCount ≠ 0#32) (hq : s.params.qdepth ≤ s.txq.length) : s.chanMove x = s :=
  State.chanMove_idle
    (by simp [State.chanReady, State.paceOk, hp, show ¬ s.txq.length < s.params.qdepth by omega])
    (by simp [State.chanEmptyReady, hc])

/-- Whatever the load and the store of a transfer do: the queue, the ghost of the pushes, Channel A's read address
and the error flags are all that can change. -/
theorem State.moveWord_frame (s : State) (x : Chan) : ∃ q tr a e, s.moveWord x =
    { s with txq := q, pushTrace := tr, chA := { s.chA with readAddr := a }, err := e } := by
  simp only [State.moveWord]
  rcases State.dmaRead_cases s (s.chan x).readAddr with ⟨h, _⟩ | ⟨h, _⟩ <;> rw [h]
  · rcases State.dmaWrite_cases s (s.chan x).writeAddr
      (s.content (s.chan x).readAddr.toNat (locate s.params (s.chan x).readAddr.toNat)) with h | h | h <;> rw [h]
    · simp only [State.pushTxq]
      split <;> exact ⟨_, _, _, _, rfl⟩
    · exact ⟨_, _, _, _, rfl⟩
    · exact ⟨_, _, _, _, rfl⟩
  · rcases State.dmaWrite_cases (s.raise .bus) ((s.raise .bus).chan x).writeAddr 0#32 with h | h | h <;> rw [h]
    · simp only [State.pushTxq]
      split <;> exact ⟨_, _, _, _, rfl⟩
    · exact ⟨_, _, _, _, rfl⟩
    · exact ⟨_, _, _, _, rfl⟩

/-- Whatever a channel's move does: the descriptors, the queue, the ghost of the pushes and the error flags are all
that can change. -/
theorem State.chanMove_frame (s : State) (x : Chan) : ∃ q tr a b e, s.chanMove x =
    { s with txq := q, pushTrace := tr, chA := a, chB := b, err := e } := by
  have hc : ∀ (u : State) (y : Chan), ∃ a b, u.completeRun y = { u with chA := a, chB := b } := by
    intro u y
    simp only [State.completeRun]
    cases y <;> split <;> exact ⟨_, _, rfl⟩
  simp only [State.chanMove]
  split
  · obtain ⟨q, tr, a, e, h⟩ := s.moveWord_frame x
    simp only [State.chanStep, h]
    split
    · obtain ⟨a', b', h'⟩ := hc (State.setChan { s with
        txq := q, pushTrace := tr, chA := { s.chA with readAddr := a }, err := e } x
          (Channel.advance (State.chan { s with
            txq := q, pushTrace := tr, chA := { s.chA with readAddr := a }, err := e } x))) x
      rw [h']
      cases x <;> exact ⟨_, _, _, _, _, rfl⟩
    · cases x <;> exact ⟨_, _, _, _, _, rfl⟩
  · split
    · obtain ⟨a', b', h'⟩ := hc s x
      exact ⟨s.txq, s.pushTrace, a', b', s.err, h'⟩
    · exact ⟨_, _, _, _, _, rfl⟩

end Sys2Proof.Machine
end

