-- ==== Sys2Proof/Laws/PerInstr.lean ====
section
/-! SUPPORT. One lemma per constructor of `Instr`: the encoding of a well-formed instruction matches that
instruction's row of spec/30_encoding.md R94, and a bus instruction is presented with its own `bus_we` (R91). -/

namespace Sys2Proof.Laws.EncodeMatchesRow

/-- A well-formed command's word matches the row of its mnemonic; a bus transaction has `bus_we` as R91 says. -/
def Statement (i : Instr) : Prop :=
  i.wellFormed = true →
    match encode i with
    | .cmd w => ∃ r, r ∈ opcodeRows ∧ r.mnemonic = i.mnemonic ∧ r.matchesWord w = true
    | .bus t => (t.we = false ↔ i.mnemonic = "RD") ∧ (t.we = true ↔ i.mnemonic = "WR")

/-- The row `r` witnesses the statement for a command word that matches it. -/
theorem of_row {i : Instr} {w : Word} (r : OpcodeRow) (he : encode i = .cmd w) (hr : r ∈ opcodeRows)
    (hm : r.mnemonic = i.mnemonic) (hw : w &&& r.mask = r.pattern) : Statement i := by
  intro _
  rw [he]
  exact ⟨r, hr, hm, by simp [OpcodeRow.matchesWord, hw]⟩

/-- Match and mask of a format `S` word. -/
theorem masked_shape (k s : BitVec 4) : (k ++ 0#24 ++ s : BitVec 32) &&& 0xFFFFFFF0#32 = (k ++ 0#24 ++ 0#4 : BitVec 32) := by
  show (k ++ 0#24 ++ s : BitVec 32) &&& (BitVec.allOnes 4 ++ BitVec.allOnes 24 ++ 0#4) = _
  rw [append_and_append, append_and_append, BitVec.and_allOnes, BitVec.and_allOnes, BitVec.and_zero]

theorem nop : Statement .nop := of_row ⟨"NOP", 0x00000000#32, 0xFFFFFFFF#32⟩ rfl (by decide) rfl (by decide)

theorem gen (s : Nat) : Statement (.gen s) := by
  refine of_row ⟨"GEN", 0x10000000#32, 0xFFFFFFF0#32⟩ rfl (by decide) rfl ?_
  exact masked_shape 1#4 _

theorem genall : Statement .genall := of_row ⟨"GENALL", 0x20000000#32, 0xFFFFFFFF#32⟩ rfl (by decide) rfl (by decide)

theorem setf (imm : Int) : Statement (.setf imm) := by
  refine of_row ⟨"SETF", 0x30000000#32, 0xF0000000#32⟩ rfl (by decide) rfl ?_
  show (3#4 ++ BitVec.ofInt 28 imm : BitVec 32) &&& (BitVec.allOnes 4 ++ 0#28) = (3#4 ++ 0#28 : BitVec 32)
  rw [append_and_append, BitVec.and_allOnes, BitVec.and_zero]

theorem fdelta (dir : Direction) (mag : Nat) : Statement (.fdelta dir mag) := by
  refine of_row ⟨"FDELTA", 0x40000000#32, 0xF7FF0000#32⟩ rfl (by decide) rfl ?_
  show (4#4 ++ dir.bit ++ 0#11 ++ BitVec.ofNat 16 mag : BitVec 32) &&&
    (BitVec.allOnes 4 ++ 0#1 ++ BitVec.allOnes 11 ++ 0#16) = (4#4 ++ 0#1 ++ 0#11 ++ 0#16 : BitVec 32)
  rw [append_and_append, append_and_append, append_and_append, BitVec.and_allOnes, BitVec.and_zero,
    BitVec.and_allOnes, BitVec.and_zero]

theorem mdelta (dir : Direction) : Statement (.mdelta dir) := by
  cases dir
  · exact of_row ⟨"MDELTA", 0x50000000#32, 0xF7FFFFFF#32⟩ rfl (by decide) rfl (by decide)
  · exact of_row ⟨"MDELTA", 0x50000000#32, 0xF7FFFFFF#32⟩ rfl (by decide) rfl (by decide)

theorem applydiv : Statement .applydiv :=
  of_row ⟨"APPLYDIV", 0x60000000#32, 0xFFFFFFFF#32⟩ rfl (by decide) rfl (by decide)

theorem quiesce : Statement .quiesce :=
  of_row ⟨"QUIESCE", 0x70000000#32, 0xFFFFFFFF#32⟩ rfl (by decide) rfl (by decide)

theorem resume : Statement .resume := of_row ⟨"RESUME", 0x80000000#32, 0xFFFFFFFF#32⟩ rfl (by decide) rfl (by decide)

theorem wave (s : Nat) : Statement (.wave s) := by
  refine of_row ⟨"WAVE", 0x90000000#32, 0xFFFFFFF0#32⟩ rfl (by decide) rfl ?_
  exact masked_shape 9#4 _

theorem start : Statement .start := of_row ⟨"START", 0xA0000000#32, 0xFFFFFFFF#32⟩ rfl (by decide) rfl (by decide)

theorem rd (addr : BitVec 16) : Statement (.rd addr) := by
  intro _
  simp [encode, Instr.mnemonic]

theorem wr (addr : BitVec 16) (data : Word) : Statement (.wr addr data) := by
  intro _
  simp [encode, Instr.mnemonic]

end Sys2Proof.Laws.EncodeMatchesRow
end

