-- ==== Sys2Proof/Laws/Step.lean ====
section
/-! SUPPORT. Steps and runs: which move a step takes, and how a run goes on from its first step. -/

namespace Sys2Proof.Machine

/-- A step with a move in the agenda takes that move, with the bus outputs idle. -/
theorem step_of_agenda {s : State} {m : Move} {rest : List Move} (h : s.agenda = m :: rest) :
    step s = runMove m { s with agenda := rest, busAck := false, busErr := false } := by
  simp only [step, State.nextMove, h]
  rfl

/-- A step with nothing in the agenda takes the free move. -/
theorem step_of_empty_agenda {s : State} (h : s.agenda = []) :
    step s = runMove (Config.freeMove s.freeCtr)
      { s with freeCtr := s.freeCtr + 1, busAck := false, busErr := false } := by
  simp only [step, State.nextMove, h]
  rw [← h]
  rfl

/-- What precedes a move changes nothing but the agenda, the free-move counter and the bus outputs. -/
theorem nextMove_busIdle_eq (s : State) : s.nextMove.2.busIdle =
    { s with agenda := s.nextMove.2.agenda, freeCtr := s.nextMove.2.freeCtr, busAck := false, busErr := false } := by
  unfold State.nextMove
  split <;> rfl

/-- No steps. -/
@[simp] theorem runSteps_zero (s : State) : runSteps 0 s = .next s := rfl

/-- A run whose first step answers a next state goes on from it. -/
theorem runSteps_succ {k : Nat} {s t : State} (h : step s = .next t) : runSteps (k + 1) s = runSteps k t := by
  rw [runSteps, h]

/-- A run in two parts. -/
theorem runSteps_add {j k : Nat} {s t : State} (h : runSteps j s = .next t) : runSteps (j + k) s = runSteps k t := by
  induction j generalizing s with
  | zero =>
    injection h with h
    subst h
    rw [Nat.zero_add]
  | succ j ih =>
    rw [Nat.succ_add]
    cases hs : step s with
    | next u =>
      rw [runSteps_succ hs] at h ⊢
      exact ih h
    | fault f => simp [runSteps, hs] at h
    | refused r => simp [runSteps, hs] at h

/-- A run that answers a next state: its first step does, and the rest runs from there. -/
theorem runSteps_succ_inv {k : Nat} {s t : State} (h : runSteps (k + 1) s = .next t) :
    ∃ u, step s = .next u ∧ runSteps k u = .next t := by
  cases hs : step s with
  | next u => exact ⟨u, rfl, by rwa [runSteps_succ hs] at h⟩
  | fault f => simp [runSteps, hs] at h
  | refused r => simp [runSteps, hs] at h

/-- A host run whose first step answers a next state goes on from it. -/
theorem hostRun_succ (M : Host.Core) {k : Nat} {s t : M.State} (h : M.step s = .next t) :
    M.run (k + 1) s = M.run k t := by
  simp only [Host.Core.run, h]

/-- A host run whose first step faults. -/
theorem hostRun_fault (M : Host.Core) {k : Nat} {s : M.State} {f : M.Fault} (h : M.step s = .fault f) :
    M.run (k + 1) s = .fault f := by
  simp only [Host.Core.run, h]

/-- A host run whose first step is refused. -/
theorem hostRun_refused (M : Host.Core) {k : Nat} {s : M.State} {r : M.Refusal} (h : M.step s = .refused r) :
    M.run (k + 1) s = .refused r := by
  simp only [Host.Core.run, h]

/-- `runSteps` is the host's `core.run`. -/
theorem runSteps_eq_core_run (k : Nat) (s : State) : core.run k s = runSteps k s := by
  induction k generalizing s with
  | zero => rfl
  | succ k ih =>
    rw [runSteps]
    cases hs : step s with
    | next t => exact (hostRun_succ core hs).trans (ih t)
    | fault f => exact hostRun_fault core hs
    | refused r => exact hostRun_refused core hs

/-! ## Cycles of the reference schedule (spec/70_reset_and_hazards.md R305) and infinite runs -/

/-- What a cycle can do: the host's stage, the sequencer's, then the DMA master and the clock edge. -/
theorem cycleMove_cases {x : Option BusTxn} {s t : State} (h : cycleMove x s = .next t) :
    ∃ s1 s2 : State, cycleHost x s = .next s1 ∧ cycleFront x s = .next s2 ∧ (s.seqPhase = .idle → s2 = s1) ∧
      (s.seqPhase ≠ .idle → seqClocked s1 = .next s2) ∧ t = s2.dmaMove.clockEdge := by
  unfold cycleMove at h
  split at h
  · rename_i s2 h2
    obtain rfl : s2.dmaMove.clockEdge = t := by injection h
    have h2' := h2
    unfold cycleFront at h2
    split at h2
    · rename_i s1 h1
      refine ⟨s1, s2, h1, h2', fun hp => ?_, fun hp => ?_, rfl⟩
      · rw [if_pos hp] at h2; injection h2 with h2; exact h2.symm
      · rw [if_neg hp] at h2; exact h2
    · cases h2
    · cases h2
  · cases h
  · cases h

/-- The stages of a cycle that does not stop, by name. -/
theorem stateAfter_of_next {s t : State} {r : Result State} (h : r = .next t) : stateAfter s r = t := by rw [h]; rfl

/-- A run makes each of its moves as a step makes it when that move is next in the agenda. -/
theorem step_of_isRun {schedule : Nat → Move} {trajectory : Nat → State} (h : IsRun schedule trajectory) (k : Nat) :
    step { trajectory k with agenda := schedule k :: (trajectory k).agenda } = .next (trajectory (k + 1)) :=
  (step_of_agenda rfl).trans (h k)

end Sys2Proof.Machine
end

