-- ==== Sys2Proof/Tests/Slice0.lean ====
section
/-! SUPPORT. Tests by evaluation: ill-formed terms are refused, words written out from spec/30_encoding.md decode,
single steps give the values of spec/95_test_vectors.md and of the rules' own examples, and for every statement with
hypotheses a concrete state meets them. -/

namespace Sys2Proof.Tests

open Sys2Proof.Machine

/-! ## Well-formedness (R93): each check refuses an ill-formed term -/

theorem test_gen_shape_of_five_bits_is_ill_formed : (Instr.gen 16).wellFormed = false := by decide

theorem test_wave_shape_of_five_bits_is_ill_formed : (Instr.wave 16).wellFormed = false := by decide

theorem test_setf_above_28_bits_is_ill_formed : (Instr.setf 134217728).wellFormed = false := by decide

theorem test_setf_below_28_bits_is_ill_formed : (Instr.setf (-134217729)).wellFormed = false := by decide

theorem test_fdelta_of_17_bits_is_ill_formed : (Instr.fdelta .up 65536).wellFormed = false := by decide

theorem test_operands_at_their_bounds_are_well_formed :
    (Instr.gen 15).wellFormed = true ∧ (Instr.wave 15).wellFormed = true ∧
      (Instr.setf 134217727).wellFormed = true ∧ (Instr.setf (-134217728)).wellFormed = true ∧
      (Instr.fdelta .down 65535).wellFormed = true := by decide

/-! ## Decoding (R92 to R96): one word per constructor, bit by bit from the format -/

theorem test_decode_nop : decodeCmd 0b0000_0000000000000000000000000000#32 = .ok .nop := by decide

/-- Format `S`: opcode 1, `s` in bits 3:0. -/
theorem test_decode_gen : decodeCmd 0b0001_000000000000000000000000_1000#32 = .ok (.gen 8) := by decide

theorem test_decode_genall : decodeCmd 0b0010_0000000000000000000000000000#32 = .ok .genall := by decide

/-- R154: `SETF 2000000` is `0x301E8480`, `SETF -5` is `0x3FFFFFFB`. -/
theorem test_decode_setf :
    decodeCmd 0b0011_0000000111101000010010000000#32 = .ok (.setf 2000000) ∧
      decodeCmd 0b0011_1111111111111111111111111011#32 = .ok (.setf (-5)) := by decide

/-- R155: `FDELTA DOWN, 20` is `0x48000014`. -/
theorem test_decode_fdelta :
    decodeCmd 0b0100_1_00000000000_0000000000010100#32 = .ok (.fdelta .down 20) ∧
      decodeCmd 0b0100_0_00000000000_0000000000000011#32 = .ok (.fdelta .up 3) := by decide

theorem test_decode_mdelta :
    decodeCmd 0b0101_0_000000000000000000000000000#32 = .ok (.mdelta .up) ∧
      decodeCmd 0b0101_1_000000000000000000000000000#32 = .ok (.mdelta .down) := by decide

theorem test_decode_applydiv : decodeCmd 0b0110_0000000000000000000000000000#32 = .ok .applydiv := by decide

theorem test_decode_quiesce : decodeCmd 0b0111_0000000000000000000000000000#32 = .ok .quiesce := by decide

theorem test_decode_resume : decodeCmd 0b1000_0000000000000000000000000000#32 = .ok .resume := by decide

theorem test_decode_wave : decodeCmd 0b1001_000000000000000000000000_1100#32 = .ok (.wave 12) := by decide

theorem test_decode_start : decodeCmd 0b1010_0000000000000000000000000000#32 = .ok .start := by decide

/-- R91: `bus_we` is bit 48 of the table's bus word, `bus_addr` bits 47:32, `bus_wdata` bits 31:0. -/
theorem test_decode_bus :
    decodeTableWord 56 0x00_0_0008_00000000 = some (.rd 0x0008#16) ∧
      decodeTableWord 56 0x1_0010_00000005 = some (.wr 0x0010#16 0x00000005#32) := by decide

/-- R96: reserved opcodes and a 1 in a must-be-zero bit are illegal. -/
theorem test_decode_refuses :
    decodeCmd 0xB0000000#32 = .error .reservedOpcode ∧ decodeCmd 0xFFFFFFFF#32 = .error .reservedOpcode ∧
      decodeCmd 0x00000001#32 = .error .mustBeZero ∧ decodeCmd 0x10000010#32 = .error .mustBeZero ∧
      decodeCmd 0x40010000#32 = .error .mustBeZero ∧ decodeCmd 0x50000001#32 = .error .mustBeZero := by decide

/-- The words the host asks about are the decoder's. -/
theorem test_table_words :
    decodeTableWord 32 0x9000000C = some (.wave 12) ∧ decodeTableWord 32 0x30000014 = some (.setf 20) ∧
      decodeTableWord 32 0xC0000000 = none := by decide

/-! ## Small states -/

/-- Parameters that keep evaluation short: eight samples, two words, queue of two, divisor 8 at the initial 1000 Hz;
the sine entries are the formula of R123 at `N = 8`. -/
def small : Params :=
  { Params.standard with n := 8, qdepth := 2, cHz := 64000, sineTable := [177, 245, 245, 177, 79, 11, 11, 79] }

/-- The state a result holds. -/
def stateOf (r : Result State) : State :=
  match r with
  | .next s => s
  | .fault _ | .refused _ => State.reset

/-- The state after the moves of an agenda. -/
def after (ms : List Move) (s : State) : State := stateOf (runSteps ms.length { s with agenda := ms })

/-- The command word `w` accepted, its first sequencer step still to come (R244). -/
def commanded (w : Word) (s : State) : State := { s with cmdReg := w, cmdBusy := true, seqPhase := .exec }

/-- Reset, `GEN 8`, `WAVE 8`. -/
def loaded : State :=
  after [.seq, .seq, .seq, .seq, .seq] (commanded 0x90000008#32 (stateOf (exec (.gen 8) (State.ofParams small))))

/-- The block right after `START`: Channel A busy at word 0. -/
def running : State := stateOf (exec .start loaded)

/-- After Channel A's whole lap with a byte presented: Channel B busy. -/
def lapDone : State := after [.cha, .bsu, .cha] running

/-- A swap accepted in the running block. -/
def swapping : State := commanded 0x90000008#32 running

/-! ## Single steps -/

/-- R154: the corner cases of the clamp. -/
theorem test_setf_clamps :
    (stateOf (exec (.setf 2000000) State.reset)).freq = 1000000#20 ∧
      (stateOf (exec (.setf (-5)) State.reset)).freq = 20#20 ∧
      (stateOf (exec (.setf 19) State.reset)).freq = 20#20 ∧
      (stateOf (exec (.setf 777) State.reset)).freq = 777#20 := by decide

/-- R155: from 1000 Hz at index 2, `FDELTA UP, 3` gives 1300, and `FDELTA DOWN, 20` from 1300 gives 20. -/
theorem test_fdelta_steps :
    (stateOf (exec (.fdelta .up 3) { State.reset with multIdx := 2#3 })).freq = 1300#20 ∧
      (stateOf (exec (.fdelta .down 20) { State.reset with multIdx := 2#3, freq := 1300#20 })).freq = 20#20 := by
  decide

/-- R155: the intermediate value exceeds 32 bits and is clamped, never wrapped. -/
theorem test_fdelta_does_not_wrap :
    (stateOf (exec (.fdelta .up 65535) { State.reset with multIdx := 5#3 })).freq = 1000000#20 := by decide

/-- R156: the index is held at `MULT_MAX = 5` and at 0. -/
theorem test_mdelta_saturates :
    (stateOf (exec (.mdelta .up) { State.reset with multIdx := 5#3 })).multIdx = 5#3 ∧
      (stateOf (exec (.mdelta .up) State.reset)).multIdx = 1#3 ∧
      (stateOf (exec (.mdelta .down) State.reset)).multIdx = 0#3 := by decide

/-- R157, R151: at the defaults 20 kHz gives 62, 20 Hz gives 62500, 1 MHz gives 1. -/
theorem test_applydiv_divisors :
    (stateOf (exec .applydiv { State.reset with freq := 20000#20 })).divReg = 62#16 ∧
      (stateOf (exec .applydiv { State.reset with freq := 20#20 })).divReg = 62500#16 ∧
      (stateOf (exec .applydiv { State.reset with freq := 1000000#20 })).divReg = 1#16 := by decide

/-- R262: with `C_HZ = 1` the divisor is 0: only `ERR[0]`. -/
theorem test_applydiv_out_of_range :
    (stateOf (exec .applydiv (State.ofParams { small with cHz := 1 }))).err = 1#7 ∧
      (stateOf (exec .applydiv (State.ofParams { small with cHz := 1 }))).divValid = false := by decide

/-- R131: at `N = 100`, `GEN 8` leaves word `0x6030` = `0x0000FFFF` and `GENSTAT` bit 8. -/
theorem test_gen_square50 :
    (stateOf (exec (.gen 8) State.reset)).wordAt 0x6030 = 0x0000FFFF#32 ∧
      (stateOf (exec (.gen 8) State.reset)).genDone = 0x0100#13 := by decide

/-- R99: word 0 of the sine at `N = 100` is `0x9C948C84`. -/
theorem test_sine_word_zero : packedWord Params.standard 0 0 = 0x9C948C84#32 := by decide

/-- R125, R122: the exact halves of the sawtooth at `N = 100`, under both settings of `ROUND_TIE`. -/
theorem test_sawtooth_ties :
    [10, 30, 50, 70, 90, 99].map (tableSample Params.standard 2) = [26, 76, 128, 178, 230, 252] ∧
      [30, 70].map (tableSample { Params.standard with roundTie := .halfUp } 2) = [77, 179] := by decide

/-- R126, R127: triangle and staircase values at `N = 100`. -/
theorem test_triangle_and_staircase :
    [0, 1, 25, 50, 99].map (tableSample Params.standard 1) = [255, 249, 127, 0, 249] ∧
      [0, 19, 20, 40, 60, 80, 99].map (tableSample Params.standard 3) = [0, 0, 63, 127, 191, 255, 255] := by decide

/-- R132: a refused `GENALL` raises `E_ILLEGAL_CMD`; an accepted one enters its loop. -/
theorem test_genall_first_step :
    (stateOf (exec .genall (commanded 0x20000000#32 State.reset))).seqPhase = .genLoop ∧
      (stateOf (exec .genall (commanded 0x20000000#32 running))).err = 8#7 := by decide

/-- R224: before `START` the swap leaves `SHAPE = 8`, `DIV_VALID = 1` and the BSU disabled (R230). -/
theorem test_wave_loads :
    loaded.statusWord = 0x00000008#32 ∧ loaded.shapeSel = 8#4 ∧ loaded.divReg = 8#16 ∧
      loaded.wordAt 0x8000 = 0xFFFFFFFF#32 ∧ loaded.wordAt 0x8004 = 0x00000000#32 := by decide

/-- R224: a shape that was never generated. -/
theorem test_wave_refuses_missing_table : (stateOf (exec (.wave 3) running)).err = 8#7 := by decide

/-- R199: the registers after a successful `START`. -/
theorem test_start_configures :
    running.statusWord = 0x0000000E#32 ∧ ctrlWord running.chA.ctrl = 0x8000001B#32 ∧
      ctrlWord running.chB.ctrl = 0x00000011#32 ∧ running.chA.readAddr = 0x8000#32 ∧
      running.chA.transCount = 2#32 ∧ running.wordAt 0x300 = 0x00008000#32 := by decide

/-- R264, R273: `START` as the first command raises both configuration errors at once. -/
theorem test_start_refused : (stateOf (exec .start State.reset)).err = 6#7 := by decide

/-- R177, R178: `QUIESCE` and `RESUME` on a running block; `RESUME` before `START` leaves the BSU disabled. -/
theorem test_quiesce : (stateOf (exec .quiesce running)).statusWord = 0x0000000A#32 := by decide

theorem test_resume :
    (stateOf (exec .resume { running with bsuEn := false })).bsuEn = true ∧
      (stateOf (exec .resume State.reset)).bsuEn = false := by decide

theorem test_nop : stateOf (exec .nop (commanded 0#32 running)) = { running with cmdReg := 0#32 } := by decide

/-- R242: after reset `RD 0x0008` returns 1000, `RD 0x0002` is refused. -/
theorem test_rd :
    (stateOf (exec (.rd 0x0008#16) State.reset)).busRdata = 0x000003E8#32 ∧
      (stateOf (exec (.rd 0x0002#16) State.reset)).busErr = true ∧
      (stateOf (exec (.rd 0x0002#16) State.reset)).statusWord = 0x00002000#32 := by decide

/-- R243: `WR 0x0010, 5` is refused; `WR CMD` is accepted when idle and dropped when busy. -/
theorem test_wr :
    (stateOf (exec (.wr 0x0010#16 5#32) State.reset)).err = 0x20#7 ∧
      (stateOf (exec (.wr 0x0000#16 0x60000000#32) State.reset)).cmdReg = 0x60000000#32 ∧
      (stateOf (exec (.wr 0x0000#16 0x60000000#32) swapping)).err = 0x10#7 := by decide

/-- R172: the first tick of the running block presents sample 0, the least significant byte of word 0. -/
theorem test_first_tick :
    (after [.cha, .bsu] running).outTrace = [255#8] ∧ (after [.cha, .bsu] running).osrCnt = 3#3 := by decide

/-- R192, R195, R201: two transfers complete the lap and hand over to Channel B; its step rearms Channel A. -/
theorem test_lap_and_rearm :
    lapDone.chA.ctrl.busy = false ∧ lapDone.chB.ctrl.busy = true ∧ lapDone.chA.readAddr = 0x8008#32 ∧
      (after [.chb] lapDone).chA.readAddr = 0x8000#32 ∧ (after [.chb] lapDone).chA.transCount = 2#32 := by decide

/-- R305: a cycle of the running block gives the BSU its turn at a tick and Channel A the DMA master; after a lap Channel
B has it. -/
theorem test_cycle_gives_turns :
    running.givesTurn (.cycle none) .bsu = true ∧ running.givesTurn (.cycle none) .cha = true ∧
      (after [.cycle none] running).givesTurn (.cycle none) .bsu = false ∧
      lapDone.givesTurn (.cycle none) .chb = true ∧ lapDone.givesTurn (.cycle none) .cha = false ∧
      swapping.givesTurn (.cycle none) .seq = true ∧ running.givesTurn (.cycle none) .host = false := by decide

/-- The host's two questions: the word is placed, and the next step runs it from reset. -/
theorem test_fetch_word_runs_command :
    stateOf (step (State.reset.withFetchWord 32 0x300003E9)) =
      { State.reset with cmdReg := 0x300003E9#32, freq := 1001#20 } := by decide

theorem test_fetch_word_runs_bus_read :
    stateOf (step (State.reset.withFetchWord 56 0x000800000000)) =
      { State.reset with busRdata := 0x000003E8#32, busAck := true } := by decide

/-! ## The invariant's witnesses -/

/-- The invariant of a started block whose sequencer is idle or about to decode, as facts that evaluation decides. -/
abbrev StartedFacts (s : State) : Prop :=
  (s.params.legal = true ∧ 20 ≤ s.freq.toNat ∧ s.freq.toNat ≤ 1000000 ∧ s.multIdx.toNat ≤ s.params.multMax ∧
    1 ≤ s.divReg.toNat ∧ s.divReg.toNat ≤ s.params.divMax ∧ s.divValid = true ∧ s.shapeSel.toNat ≤ 12 ∧
    s.osrCnt.toNat ≤ 3 ∧ s.txq.length ≤ s.params.qdepth ∧ s.started = true) ∧
  ((s.cmdBusy = false ∧ s.seqPhase = .idle) ∨ (s.cmdBusy = true ∧ s.seqPhase = .exec)) ∧
  (s.chA.writeAddr = BitVec.ofNat 32 txqAddr ∧ s.chA.countReload = BitVec.ofNat 32 s.params.words ∧
    s.chA.ctrl = { decodeCtrl 0x0000001B#32 with busy := s.chA.ctrl.busy } ∧
    s.chA.transCount.toNat ≤ s.params.words ∧
    s.chA.readAddr.toNat = activeBase + 4 * (s.params.words - s.chA.transCount.toNat) ∧
    s.chB.readAddr = BitVec.ofNat 32 litAddr ∧ s.chB.writeAddr = BitVec.ofNat 32 aReadAddrAddr ∧
    s.chB.countReload = 1#32 ∧ s.chB.ctrl = { decodeCtrl 0x00000011#32 with busy := s.chB.ctrl.busy } ∧
    ((s.chA.ctrl.busy = true ∧ s.chB.ctrl.busy = false ∧ 1 ≤ s.chA.transCount.toNat ∧ s.chB.transCount = 0#32) ∨
      (s.chA.ctrl.busy = false ∧ s.chB.ctrl.busy = true ∧ s.chA.transCount = 0#32 ∧ s.chB.transCount = 1#32)) ∧
    s.wordAt litAddr = BitVec.ofNat 32 activeBase ∧ s.shapeSel ≠ noShape ∧
    s.pushTrace.length % s.params.words = (s.params.words - s.chA.transCount.toNat) % s.params.words) ∧
  (Memory.wf s.mem ∧
    (∀ c, c ∈ s.mem → (litAddr ≤ c.1 ∧ c.1 < litAddr + 4) ∨
      (shapeBase 8 ≤ c.1 ∧ c.1 < shapeBase 8 + 4 * s.params.words) ∨
      (activeBase ≤ c.1 ∧ c.1 < activeBase + 4 * s.params.words)) ∧
    (∀ sel, sel ≤ 12 → s.generated sel = true → ∀ w, w < s.params.words →
      s.wordAt (shapeBase sel + 4 * w) = packedWord s.params sel w) ∧
    (∀ w, w < s.params.words → s.wordAt (activeBase + 4 * w) = packedWord s.params s.shapeSel.toNat w)) ∧
  bytesOf s.pushTrace = s.outTrace ++ (unpack4 s.osr).take s.osrCnt.toNat ++ bytesOf s.txq

/-- Those facts are the invariant. -/
theorem inv_of_facts {s : State} (h : StartedFacts s) : BlockInvariant s := by
  obtain ⟨⟨r1, r2, r3, r4, r5, r6, r7, r8, r9, r10, r11⟩, hp,
    ⟨e1, e2, e3, e4, e5, e6, e7, e8, e9, e10, e11, e12, e13⟩, ⟨m1, m2, m3, m4⟩, st⟩ := h
  refine ⟨⟨r1, r2, r3, r4, fun _ => ⟨r5, r6⟩, .inr r8, fun _ => r7, r9, r10, fun _ => r11⟩, ?_,
    ⟨fun _ => ⟨e1, e2, e3, e4, e5, e6, e7, e8, e9, e10, e11, e12, e13⟩, fun h => by simp [r11] at h⟩,
    ⟨m1, fun c hc => ?_, m3, fun _ _ => m4, fun h => ?_⟩, st⟩
  · rcases hp with ⟨h1, h2⟩ | ⟨h1, h2⟩ <;> constructor <;> simp [h1, h2]
  · rcases m2 c hc with h | h | h
    · exact .inl h
    · exact .inr (.inl ⟨8, by decide, h⟩)
    · exact .inr (.inr h)
  · rcases hp with ⟨_, h2⟩ | ⟨_, h2⟩ <;> rw [h2] at h <;> cases h

/-- The invariant does not read the agenda. -/
theorem running_inv (ms : List Move) : BlockInvariant { running with agenda := ms } := by
  have h : StartedFacts running := by decide
  exact inv_of_facts (s := { running with agenda := ms }) h

theorem lapDone_inv : BlockInvariant lapDone := inv_of_facts (by decide)

theorem swapping_inv (ms : List Move) : BlockInvariant { swapping with agenda := ms } := by
  have h : StartedFacts swapping := by decide
  exact inv_of_facts (s := { swapping with agenda := ms }) h


/-! ## Witnesses: for each statement with hypotheses, operands and a state that meet them, each clause at its bounds -/

/-- The four boundary operands of the encoding are well formed and an encoding of each is a legal word. -/
theorem witness_WellFormedInstructionsRoundTrip :
    (Instr.setf (-134217728)).wellFormed = true ∧ (Instr.fdelta .down 65535).wellFormed = true ∧
      (Instr.gen 15).wellFormed = true ∧ (Instr.wr 0xFFFF#16 0xFFFFFFFF#32).wellFormed = true := by decide

theorem witness_LegalCommandWordsAreEncodings : decodeCmd 0x4800FFFF#32 = .ok (.fdelta .down 65535) := by decide

theorem witness_SequencerRunsDecodedCommand :
    { swapping with agenda := [.seq, .cha] }.agenda = .seq :: [.cha] ∧ swapping.seqPhase = .exec ∧
      decodeCmd swapping.cmdReg = .ok (.wave 8) := by decide

theorem witness_HostStepRunsTransaction :
    { State.reset with agenda := [.host ⟨false, 0x0004#16, 0#32⟩] }.agenda = [.host ⟨false, 0x0004#16, 0#32⟩] ∧
      { State.reset with agenda := [.host ⟨true, 0x0000#16, 0#32⟩] }.agenda = [.host ⟨true, 0x0000#16, 0#32⟩] := by
  decide

theorem witness_LaterPhasesContinueTheirCommand :
    (after [.seq] swapping).seqPhase = .wvQuiesce ∧ (after [.seq, .seq] swapping).seqPhase = .wvCopy ∧
      (after [.seq, .seq, .seq, .seq] swapping).seqPhase = .wvResume ∧
      (after [.seq] (commanded 0x20000000#32 State.reset)).seqPhase = .genLoop ∧
      { swapping with agenda := [.seq] }.agenda = [.seq] := by decide

theorem witness_IllegalWordOnlyRaisesFlag :
    (∀ r, r ∈ opcodeRows → r.matchesWord (commanded 0xB0000000#32 running).cmdReg = false) ∧
      (∀ r, r ∈ opcodeRows → r.matchesWord (commanded 0x90000010#32 running).cmdReg = false) ∧
      (commanded 0xB0000000#32 running).seqPhase = .exec ∧
      { commanded 0xB0000000#32 running with agenda := [.seq] }.agenda = [.seq] := by decide

theorem witness_SetfClampsFrequency : 0x3FFFFFFF#32 &&& 0xF0000000#32 = 0x30000000#32 := by decide

theorem witness_FdeltaStepsFrequency :
    0x4800FFFF#32 &&& 0xF7FF0000#32 = 0x40000000#32 ∧
      State.reset.params.mult[State.reset.multIdx.toNat]? = some 1 ∧
      { State.reset with multIdx := 5#3 }.params.mult[(5#3).toNat]? = some 100000 := by decide

theorem witness_MdeltaStepsIndex :
    0x58000000#32 &&& 0xF7FFFFFF#32 = 0x50000000#32 ∧ State.reset.params.multMax ≤ 7 := by decide

/-- A legal divisor, and the three boundary values 0, 1 and `DIV_MAX + 1` of the range. -/
theorem witness_ApplydivWritesDivisor :
    (125000000 / (State.reset.freq.toNat * 100) = 1250 ∧ State.reset.params.divMax ≤ 65535) ∧
      (State.ofParams { small with cHz := 7999 }).wantedDivisor = 0 ∧
      (State.ofParams { small with cHz := 8000 }).wantedDivisor = 1 ∧
      (State.ofParams { small with divMax := 7 }).wantedDivisor = 7 + 1 := by decide

theorem witness_GenWritesItsTable :
    0x1000000F#32 &&& 0xFFFFFFF0#32 = 0x10000000#32 ∧ State.reset.started = false ∧ (0 ≤ 12 ∧ 12 ≤ 12) := by decide

theorem witness_GenRefusedOnlyRaisesFlag : running.started = true ∧ 12 < 13 ∧ 12 < 15 := by decide

theorem witness_GenallBeginsLoop :
    (commanded 0x20000000#32 State.reset).seqPhase = .exec ∧ (commanded 0x20000000#32 State.reset).started = false ∧
      (commanded 0x20000000#32 running).seqPhase = .exec ∧ (commanded 0x20000000#32 running).started = true := by
  decide

theorem witness_GenallLoopGeneratesOneTable :
    (after [.seq] (commanded 0x20000000#32 (State.ofParams small))).seqPhase = .genLoop ∧
      (after [.seq] (commanded 0x20000000#32 (State.ofParams small))).seqIdx.toNat = 0 ∧
      { after [.seq] (commanded 0x20000000#32 (State.ofParams small)) with seqIdx := 12#9 }.seqIdx.toNat = 12 := by
  decide

theorem witness_GenallEqualsThirteenGens :
    (commanded 0x20000000#32 State.reset).started = false ∧ (commanded 0x20000000#32 State.reset).seqPhase = .exec ∧
      (commanded 0x20000000#32 State.reset).busAck = false ∧ (commanded 0x20000000#32 State.reset).busErr = false ∧
      { commanded 0x20000000#32 State.reset with agenda := List.replicate 14 Move.seq }.agenda =
        List.replicate 14 Move.seq := by decide

/-- The four outcomes of step 0: shape above 12, table missing, divisor out of range, and success. -/
theorem witness_WaveChecksThenAppliesDivisor :
    (0x9000000F#32 &&& 0xFFFFFFF0#32 = 0x90000000#32 ∧ swapping.seqPhase = .exec ∧ 12 < 13) ∧
      (swapping.generated 12 = false ∧ swapping.generated 8 = true) ∧
      (swapping.wantedDivisor = 8 ∧ 8 ≤ swapping.params.divMax ∧ swapping.params.divMax ≤ 65535) ∧
      { swapping with freq := 8001#20 }.wantedDivisor < 1 := by decide

theorem witness_WaveQuiescesCopiesResumes :
    (after [.seq, .seq] swapping).seqIdx.toNat < swapping.params.n / 4 - 1 ∧
      (after [.seq, .seq, .seq] swapping).seqPhase = .wvCopy ∧
      (after [.seq, .seq, .seq] swapping).seqIdx.toNat = swapping.params.n / 4 - 1 ∧ swapping.params.n ≤ 1024 := by
  decide

/-- A swap of a running block with channel, BSU and host steps between its five sequencer steps. -/
theorem witness_WaveSwapsUnderAnyInterleaving :
    let before : List Move := [.cha, .seq, .bsu, .seq, .host ⟨false, 0#16, 0#32⟩, .cha, .seq, .chb, .seq]
    BlockInvariant { swapping with agenda := before ++ [.seq] } ∧ swapping.seqPhase = .exec ∧
      decodeCmd swapping.cmdReg = .ok (.wave 8) ∧ swapping.generated 8 = true ∧
      (swapping.params.cHz / (swapping.freq.toNat * swapping.params.n) = 8 ∧ 8 ≤ swapping.params.divMax) ∧
      (∀ m, m ∈ before → m.isAgentStep = true) ∧ before.count .seq = swapping.params.n / 4 + 2 :=
  ⟨swapping_inv _, by decide⟩

theorem witness_StartConfiguresEngine :
    loaded.started = false ∧ loaded.shapeSel ≠ 15#4 ∧ loaded.divValid = true ∧ loaded.hasErr .divRange = false ∧
      loaded.hasErr .noTable = false ∧ loaded.hasErr .noDiv = false := by decide

/-- Already started; and before it, each refusing condition by itself. -/
theorem witness_StartRefusedOnlyRaisesFlags :
    running.started = true ∧ (State.reset.started = false ∧ State.reset.shapeSel = 15#4) ∧
      ({ loaded with divValid := false }.started = false ∧ { loaded with divValid := false }.divValid = false) ∧
      (loaded.raise .divRange).hasErr .divRange = true ∧ (loaded.raise .noTable).hasErr .noTable = true ∧
      (loaded.raise .noDiv).hasErr .noDiv = true := by decide

theorem witness_CorruptSequencerIndexFaults :
    ({ State.reset with seqPhase := .genLoop, seqIdx := 13#9 }.seqPhase = .genLoop ∧
        12 < { State.reset with seqPhase := .genLoop, seqIdx := 13#9 }.seqIdx.toNat) ∧
      ({ State.reset with seqPhase := .wvCopy, seqIdx := 25#9 }.seqPhase = .wvCopy ∧
        State.reset.params.n / 4 ≤ (25#9).toNat) ∧ 12 < 13 := by decide

theorem witness_RdReturnsRegisters :
    (lapDone.params.n < 2 ^ 11 ∧ lapDone.params.cHz < 2 ^ 32 ∧ lapDone.txq.length < 2 ^ 5 ∧
        (stateOf (exec (.rd 0x0020#16) lapDone)).busRdata = 0x00FF0301#32) ∧
      (stateOf (exec (.rd 0x0100#16) lapDone)).busRdata = 0x00008008#32 ∧
      (stateOf (exec (.rd 0x012C#16) lapDone)).busRdata = 0x80000011#32 ∧
      (stateOf (exec (.rd 0x0200#16) lapDone)).busRdata = 0#32 := by decide

/-- The first and the last word of `LIT`, of the tables and of `ACTIVE` at `N = 100`. -/
theorem witness_RdReturnsMemoryWords :
    State.reset.params.n ≤ 1024 ∧ memoryWordAddress State.reset.params 0x0300 ∧
      memoryWordAddress State.reset.params 0x4000 ∧ memoryWordAddress State.reset.params 0x7060 ∧
      memoryWordAddress State.reset.params 0x8000 ∧ memoryWordAddress State.reset.params 0x8060 :=
  ⟨by decide, .inl rfl, .inr (.inl ⟨0, 0, by decide⟩), .inr (.inl ⟨12, 24, by decide⟩), .inr (.inr ⟨0, by decide⟩),
    .inr (.inr ⟨24, by decide⟩)⟩

/-- At `N = 100`: the words next to each refused range are mapped, the first and last word of each are not. -/
theorem witness_RdRefusedReturnsZero :
    (∀ a, a ∈ [0x0028, 0x0100, 0x0110, 0x0120, 0x0130, 0x0200, 0x0300, 0x4000, 0x4060, 0x4400, 0x7060, 0x8000, 0x8060] →
        locate Params.standard a ≠ .unmapped) ∧
      (∀ a, a ∈ [0x0002, 0x8001, 0x002C, 0x00FC, 0x0114, 0x011C, 0x0134, 0x01FC, 0x0204, 0x02FC, 0x0304, 0x3FFC, 0x4064,
          0x43FC, 0x7064, 0x7400, 0x7FFC, 0x8064, 0xFFFC] → locate Params.standard a = .unmapped) := by decide

theorem witness_WrAcceptsOnlyIdleCommands : running.cmdBusy = false ∧ swapping.cmdBusy = true ∧ 0x0004#16 ≠ 0x0000#16 := by
  decide

theorem witness_HostCannotMutateBlock :
    ∃ t, runMove (.host ⟨false, 0x0002#16, 0#32⟩) running = .next t := ⟨_, rfl⟩

theorem witness_TickPresentsNextByteOrHolds :
    running.bsuEn = true ∧
      ((after [.cha] running).osrCnt = 0#3 ∧ (after [.cha] running).txq = 0xFFFFFFFF#32 :: []) ∧
      (after [.cha, .bsu] running).osrCnt ≠ 0#3 ∧
      State.reset.bsuEn = false ∧ (running.osrCnt = 0#3 ∧ running.txq = []) := by decide

theorem witness_PrescalerPacesTicks :
    State.reset.bsuEn = false ∧ (running.bsuEn = true ∧ running.presc.toNat ≤ 1) ∧
      { running with presc := 1#16 }.presc.toNat ≤ 1 ∧ 1 < (after [.clock] running).presc.toNat := by decide

theorem witness_TicksAreDivisorApart :
    running.bsuEn = true ∧ running.divReg.toNat = 8 ∧ { running with presc := 8#16 }.presc = running.divReg ∧
      { running with agenda := List.replicate 8 Move.clock }.agenda = List.replicate 8 Move.clock ∧
      running.busAck = false ∧ running.busErr = false := by decide

/-- The first word of a lap and the last one. -/
theorem witness_ChannelAPushesNextWord :
    (running.params.legal = true ∧ EngineRunning running ∧ running.aRunning ∧
        running.txq.length < running.params.qdepth ∧ 0 = running.params.words - running.chA.transCount.toNat ∧
        0 + 1 < running.params.words) ∧
      (EngineRunning (after [.cha] running) ∧ (after [.cha] running).aRunning ∧
        (after [.cha] running).txq.length < running.params.qdepth ∧
        1 = running.params.words - (after [.cha] running).chA.transCount.toNat ∧ 1 + 1 = running.params.words) := by
  have h : BlockInvariant (after [.cha] running) := inv_of_facts (by decide)
  refine ⟨⟨by decide, (running_inv []).engine.1 (by decide), ?_, by decide⟩, h.engine.1 (by decide), ?_, by decide⟩
  · unfold State.aRunning; decide
  · unfold State.aRunning; decide

theorem witness_ChannelBRearmsChannelA : EngineRunning lapDone ∧ lapDone.bRunning := by
  refine ⟨lapDone_inv.engine.1 (by decide), ?_⟩
  unfold State.bRunning
  decide

theorem witness_ChannelWaitsWithoutEffect :
    State.reset.chA.ctrl.en = false ∧ lapDone.chA.ctrl.busy = false ∧ running.chB.ctrl.busy = false ∧
      ((after [.cha, .cha, .chb] running).chA.ctrl.pace = true ∧ (after [.cha, .cha, .chb] running).chA.transCount ≠ 0#32 ∧
        running.params.qdepth ≤ (after [.cha, .cha, .chb] running).txq.length) := by decide

/-- Channel A and Channel B with a count of 0, chained and not. -/
theorem witness_ZeroCountChannelOnlyChains :
    ({ running.chA with transCount := 0#32 }.ctrl.en = true ∧ { running.chA with transCount := 0#32 }.ctrl.busy = true ∧
        { running.chA with transCount := 0#32 }.ctrl.chainEn = true) ∧
      ({ lapDone.chB with transCount := 0#32 }.ctrl.en = true ∧ { lapDone.chB with transCount := 0#32 }.ctrl.busy = true ∧
        { lapDone.chB with transCount := 0#32 }.ctrl.chainEn = true) ∧
      { running.chA with ctrl := { running.chA.ctrl with chainEn := false } }.ctrl.chainEn = false ∧
      { lapDone.chB with ctrl := { lapDone.chB.ctrl with chainEn := false } }.ctrl.chainEn = false := by decide

theorem witness_DmaAccessRights :
    running.params.n ≤ 1024 ∧ memoryWordAddress running.params 0x8004 ∧ ¬ memoryWordAddress running.params 0x8008 ∧
      running.txq.length < running.params.qdepth ∧ running.params.qdepth ≤ (after [.cha, .cha] running).txq.length := by
  refine ⟨by decide, .inr (.inr ⟨1, by decide⟩), ?_, by decide⟩
  have hn : running.params.n = 8 := by decide
  simp only [memoryWordAddress, hn]
  rintro (h | ⟨sel, w, h1, h2, h3⟩ | ⟨w, h1, h2⟩) <;> omega

theorem witness_ResetGivesStatedValues : running.params.legal = true := by decide

/-- The parameters of the tests are legal; and for each refusal, parameters just outside one bound. -/
theorem witness_ConstructionGivesInvariantOrRefuses :
    (small.inScope ∧ small.complete) ∧ ¬ { small with qdepth := 17 }.inScope ∧ ¬ { small with n := 6 }.inScope ∧
      ¬ { small with multMax := 8 }.complete := by
  simp only [Params.inScope, Params.complete]
  decide

theorem witness_EveryStepKeepsBlockInvariant :
    BlockInvariant { running with agenda := [.cha] } ∧ ∃ t, step { running with agenda := [.cha] } = .next t :=
  ⟨running_inv _, _, rfl⟩

theorem witness_StepsNeverStop : BlockInvariant running := running_inv []

theorem witness_StepsKeepMemoryCanonical :
    Memory.wf running.mem ∧ ∃ t, step { swapping with agenda := [.seq] } = .next t := ⟨by decide, _, rfl⟩

theorem witness_ErrorFlagsAreSticky :
    Move.seq ≠ .rst ∧ (∃ t, runMove .seq (swapping.raise .bus) = .next t) ∧
      (swapping.raise .bus).hasErr .bus = true := ⟨by decide, ⟨_, rfl⟩, by decide⟩

theorem witness_ParametersNeverChange : ∃ t, step { running with agenda := [.rst] } = .next t := ⟨_, rfl⟩

theorem witness_OnlyWaveWritesActive :
    loaded.params.legal = true ∧ (∀ sel, Instr.start ≠ .wave sel) ∧ (∃ t, exec .start loaded = .next t) ∧
      (0x8000 ≤ 0x8007 ∧ 0x8007 < 0x8000 + loaded.params.n) ∧ ∃ t, runMove .cha running = .next t :=
  ⟨by decide, by simp, ⟨_, rfl⟩, by decide, ⟨_, rfl⟩⟩

theorem witness_OutputIsPushedBytesInOrder :
    small.legal = true ∧ ∃ t, runSteps 2 { State.ofParams small with agenda := [.host ⟨true, 0#16, 0#32⟩, .seq] } = .next t :=
  ⟨by decide, _, rfl⟩

theorem witness_PushCarriesActiveWord :
    BlockInvariant running ∧ runMove .cha running = .next (after [.cha] running) ∧
      (after [.cha] running).pushTrace ≠ running.pushTrace := ⟨running_inv [], rfl, by decide⟩

theorem witness_OutputRepeatsTable :
    let ms : List Move := [.cha, .bsu, .clock, .cha, .chb, .cycle none, .bsu]
    BlockInvariant { running with agenda := ms } ∧ running.started = true ∧ running.seqPhase = .idle ∧
      running.shapeSel.toNat = 8 ∧ (∀ m, m ∈ ms → m.isAutonomous = true) ∧ running.pushTrace = [] ∧
      ∃ t, runSteps 7 { running with agenda := ms } = .next t ∧ 0 < t.outTrace.length :=
  ⟨running_inv _, by decide, by decide, by decide, by decide, by decide, _, rfl, by decide⟩

/-- Twelve bytes presented, one more than the bound leaves to an older table. -/
theorem witness_StaleBytesAreBounded :
    let lap : List Move := [.cha, .bsu, .bsu, .bsu, .bsu]
    let ms : List Move := lap ++ lap ++ .chb :: lap
    BlockInvariant { running with agenda := ms } ∧ running.started = true ∧ running.seqPhase = .idle ∧
      running.shapeSel.toNat = 8 ∧ (∀ m, m ∈ ms → m.isAutonomous = true) ∧
      ∃ t, runSteps 16 { running with agenda := ms } = .next t ∧
        running.outTrace.length + (3 + 4 * running.params.qdepth) ≤ 11 ∧ 11 < t.outTrace.length :=
  ⟨running_inv _, by decide, by decide, by decide, by decide, _, rfl, by decide, by decide⟩

theorem witness_CommandsTerminate :
    let ms : List Move := [.seq, .cha, .seq, .seq, .bsu, .seq, .seq]
    BlockInvariant { swapping with agenda := ms } ∧ (∀ m, m ∈ ms → m.isAgentStep = true) ∧
      swapping.seqRemaining = 5 ∧ swapping.seqRemaining ≤ ms.count .seq := ⟨swapping_inv _, by decide⟩

/-- A block that is given `NOP` and runs by itself ever after. -/
def nopRun : Nat → State
  | 0 => commanded 0#32 State.reset
  | _ + 1 => State.reset

theorem nopRun_isRun : IsRun (fun _ => .cycle none) nopRun := by
  intro k
  cases k <;> rfl

theorem nothing_generated (sel : Nat) : (nopRun 0).generated sel = false := BitVec.getLsbD_zero

theorem nopRun_inv : BlockInvariant (nopRun 0) where
  registers := ⟨by decide, by decide, by decide, by decide, by decide, by decide, by decide, by decide, by decide,
    by decide⟩
  sequencer := ⟨by decide, nofun, fun h => absurd h (by decide), nofun, fun h => absurd h (by decide)⟩
  engine := ⟨nofun, fun _ => ⟨rfl, rfl, rfl, rfl, rfl⟩⟩
  memory := ⟨by decide, nofun, fun sel _ hg => absurd ((nothing_generated sel).symm.trans hg) Bool.false_ne_true,
    fun h => absurd rfl h, nofun⟩
  stream := rfl

/-- From cycle 1 on no agent has an enabled step. -/
theorem nopRun_weaklyFair : WeaklyFair (fun _ => .cycle none) nopRun := by
  intro x k h
  have none_enabled : ∀ x, State.reset.enabled false x = false := by intro x; cases x <;> decide
  exact absurd ((none_enabled x).symm.trans (h (k + 1) (by omega))) (by decide)

/-- The infinite run of the second clause of `CommandsTerminate`, and of `ReferenceScheduleIsWeaklyFair`. -/
theorem witness_ReferenceScheduleIsWeaklyFair :
    IsRun (fun _ => .cycle none) nopRun ∧ BlockInvariant (nopRun 0) ∧ (nopRun 0).cmdBusy = true ∧
      WeaklyFair (fun _ => .cycle none) nopRun := ⟨nopRun_isRun, nopRun_inv, rfl, nopRun_weaklyFair⟩

/-- A cycle that ticks, one that counts down, and one in which the sequencer resumes the stream beside the tick. -/
theorem witness_ClockedStreamIsGapless :
    (BlockInvariant running ∧ QueueReady running ∧ running.presc.toNat ≤ 1 ∧
        ∃ t, runMove (.cycle none) running = .next t ∧ t.bsuEn = true) ∧
      (BlockInvariant (after [.cycle none] running) ∧ QueueReady (after [.cycle none] running) ∧
        1 < (after [.cycle none] running).presc.toNat ∧
        ∃ t, runMove (.cycle none) (after [.cycle none] running) = .next t ∧ t.bsuEn = true) ∧
      BlockInvariant (commanded 0x80000000#32 { running with bsuEn := false }) ∧
        QueueReady (commanded 0x80000000#32 { running with bsuEn := false }) ∧
        ∃ t, runMove (.cycle none) (commanded 0x80000000#32 { running with bsuEn := false }) = .next t ∧
          t.bsuEn = true := by
  refine ⟨⟨running_inv [], ?_, by decide, _, rfl, by decide⟩,
    ⟨inv_of_facts (by decide), ?_, by decide, _, rfl, by decide⟩, inv_of_facts (by decide), ?_, _, rfl, by decide⟩ <;>
  · unfold QueueReady
    decide

theorem witness_RealisedFrequencyNotBelowTarget :
    computeDivisor 125000000 20000 100 = 62 ∧ 0 < 20000 ∧ 0 < 100 := by decide

/-- Legal parameters and the last index of the last table. -/
theorem witness_SamplesFitInByte : small.legal = true ∧ 12 ≤ 12 ∧ 7 < small.n ∧ tableSample small 12 7 = 0 := by decide

/-- Both settings of `TRI_QUANT`, the last index and its value. -/
theorem witness_TriangleFollowsFormula :
    Params.standard.legal = true ∧ Params.standard.triQuant = .floor ∧
      { Params.standard with triQuant := .round }.legal = true ∧ 99 < Params.standard.n ∧
      ((24990 : ℕ) : ℤ) = |255 * (Params.standard.n : ℤ) - 510 * (99 : ℕ)| := by decide

/-- At `N = 100` there are five steps and the square of 50 percent is high at 49 and low at 50; at `N = 8` there is one
step. -/
theorem witness_RampStairAndSquareFollowFormulas :
    Params.standard.legal = true ∧ 20 < Params.standard.n ∧ 99 < Params.standard.n ∧
      2 ≤ (Params.standard.n + 19) / 20 ∧ small.legal = true ∧ (small.n + 19) / 20 < 2 ∧
      49 < 10 * (8 - 3) * Params.standard.n / 100 ∧ 10 * (8 - 3) * Params.standard.n / 100 ≤ 50 := by decide

theorem witness_SineTableIsRoundedFormula : Params.standard.n = 100 ∧ 99 < 100 := by decide

end Sys2Proof.Tests
end

/-! ## What a host transaction and a sequencer step leave unchanged

`exec_frame` is the one case analysis over the instructions; `seqMove_frame`, `hostMove_frame` and `cycleFront_frame`
carry it to the moves. -/

namespace Sys2Proof.Machine

/-- Both descriptors and `STARTED` are as before. -/
def SameEngine (s t : State) : Prop := t.chA = s.chA ∧ t.chB = s.chB ∧ t.started = s.started

/-- A `START` has succeeded between `s` and `t` (R199): Channel A is in its run, Channel B is not. -/
def EngineStarted (s t : State) : Prop :=
  s.started = false ∧ t.started = true ∧ t.chA.ctrl.busy = true ∧ t.chB.ctrl.busy = false

/-- What commands and host transactions cannot touch: the parameters, the Bit-Streaming Unit's data path and prescaler,
the ghosts and the model's own counters; and the engine, which only a `START` changes. -/
structure CommandFrame (s t : State) : Prop where
  params : t.params = s.params
  txq : t.txq = s.txq
  osr : t.osr = s.osr
  osrCnt : t.osrCnt = s.osrCnt
  pins : t.pins = s.pins
  presc : t.presc = s.presc
  outTrace : t.outTrace = s.outTrace
  pushTrace : t.pushTrace = s.pushTrace
  agenda : t.agenda = s.agenda
  freeCtr : t.freeCtr = s.freeCtr
  resets : t.resets = s.resets
  engine : SameEngine s t ∨ EngineStarted s t

/-- An engine that has started is not changed by commands. -/
theorem CommandFrame.sameEngine {s t : State} (h : CommandFrame s t) (hs : s.started = true) : SameEngine s t := by
  rcases h.engine with he | ⟨hns, _⟩
  · exact he
  · simp [hs] at hns

theorem CommandFrame.refl (s : State) : CommandFrame s s :=
  ⟨rfl, rfl, rfl, rfl, rfl, rfl, rfl, rfl, rfl, rfl, rfl, .inl ⟨rfl, rfl, rfl⟩⟩

/-- The engine can be started only once along two frames. -/
theorem CommandFrame.trans {s t u : State} (h : CommandFrame s t) (k : CommandFrame t u) : CommandFrame s u where
  params := k.params.trans h.params
  txq := k.txq.trans h.txq
  osr := k.osr.trans h.osr
  osrCnt := k.osrCnt.trans h.osrCnt
  pins := k.pins.trans h.pins
  presc := k.presc.trans h.presc
  outTrace := k.outTrace.trans h.outTrace
  pushTrace := k.pushTrace.trans h.pushTrace
  agenda := k.agenda.trans h.agenda
  freeCtr := k.freeCtr.trans h.freeCtr
  resets := k.resets.trans h.resets
  engine := by
    rcases h.engine with ⟨ha, hb, hs⟩ | ⟨hs, hst, ha, hb⟩
    · rcases k.engine with ⟨ka, kb, ks⟩ | ⟨ks, kst, ka, kb⟩
      · exact .inl ⟨ka.trans ha, kb.trans hb, ks.trans hs⟩
      · exact .inr ⟨hs ▸ ks, kst, ka, kb⟩
    · obtain ⟨ka, kb, ks⟩ := k.sameEngine hst
      exact .inr ⟨hs, ks.trans hst, ka ▸ ha, kb ▸ hb⟩

theorem finish_frame (s : State) : CommandFrame s s.finish :=
  { CommandFrame.refl s with }

theorem refuseCmd_frame (s : State) (e : ErrCause) : CommandFrame s (s.refuseCmd e) :=
  { CommandFrame.refl s with }

theorem generate_frame (s : State) (sel : Nat) : CommandFrame s (s.generate sel) :=
  { CommandFrame.refl s with }

theorem commandFrame_applyDivisor {s t : State} (h : s.applyDivisor = some t) : CommandFrame s t := by
  rw [State.applyDivisor_frame h]
  exact { CommandFrame.refl s with }

theorem commandFrame_startChecks (s : State) : CommandFrame s s.startChecks := by
  rw [State.startChecks_frame]
  exact { CommandFrame.refl s with }

theorem startEngine_frame {s : State} (h : s.started = false) : CommandFrame s s.startEngine :=
  { CommandFrame.refl s with engine := .inr ⟨h, rfl, rfl, rfl⟩ }

/-! ### The host's transactions (spec/45_host_interface.md R242, R243) -/

/-- A read changes only the bus outputs and the error flags. -/
theorem execRd_eq (addr : BitVec 16) (s : State) : ∃ rdata busErr err, execRd addr s =
    .next { s with busRdata := rdata, busAck := true, busErr := busErr, err := err } := by
  simp only [execRd]
  split <;> exact ⟨_, _, _, rfl⟩

/-- A write changes only the bus outputs and the error flags, or it is the acceptance of a command. -/
theorem execWr_eq (addr : BitVec 16) (data : Word) (s : State) :
    (∃ busErr err, execWr addr data s = .next { s with busAck := true, busErr := busErr, err := err }) ∨
      (s.cmdBusy = false ∧ execWr addr data s = .next ((s.accept data).ackBus false)) := by
  simp only [execWr]
  split
  · split
    · exact .inl ⟨_, _, rfl⟩
    · rename_i hb
      exact .inr ⟨by simpa using hb, rfl⟩
  · exact .inl ⟨_, _, rfl⟩

/-- Everything a host transaction can do (R240 to R244). -/
theorem hostMove_eq (x : BusTxn) (s : State) :
    (∃ rdata busErr err, hostMove x s =
      .next { s with busRdata := rdata, busAck := true, busErr := busErr, err := err }) ∨
      (s.cmdBusy = false ∧ ∃ w, hostMove x s = .next ((s.accept w).ackBus false)) := by
  simp only [hostMove, decodeBus]
  split
  · rcases execWr_eq x.addr x.wdata s with ⟨be, e, h⟩ | ⟨hb, h⟩
    · exact .inl ⟨s.busRdata, be, e, h⟩
    · exact .inr ⟨hb, _, h⟩
  · exact .inl (execRd_eq x.addr s)

/-! ### The instructions and the moves -/

theorem execGen_frame {sel : Nat} {s t : State} (h : execGen sel s = .next t) : CommandFrame s t := by
  simp only [execGen] at h
  split at h <;> cases h
  · exact refuseCmd_frame s _
  · exact (generate_frame s sel).trans (finish_frame _)

theorem execGenall_frame {s t : State} (h : execGenall s = .next t) : CommandFrame s t := by
  simp only [execGenall, genallBegin, genallStep] at h
  split at h
  · split at h
    · cases h
    · split at h <;> cases h
      · exact (generate_frame s _).trans (finish_frame _)
      · exact { generate_frame s s.seqIdx.toNat with }
  all_goals
    split at h <;> cases h
    · exact refuseCmd_frame s _
    · exact { CommandFrame.refl s with }

theorem execApplydiv_frame {s t : State} (h : execApplydiv s = .next t) : CommandFrame s t := by
  simp only [execApplydiv] at h
  split at h <;> cases h
  · rename_i hd
    exact (commandFrame_applyDivisor hd).trans (finish_frame _)
  · exact refuseCmd_frame s _

theorem waveBegin_frame {sel : Nat} {s t : State} (h : waveBegin sel s = .next t) : CommandFrame s t := by
  simp only [waveBegin] at h
  split at h
  · cases h
    exact refuseCmd_frame s _
  · split at h <;> cases h
    · rename_i hd
      exact (commandFrame_applyDivisor hd).trans { CommandFrame.refl _ with }
    · exact refuseCmd_frame s _

theorem waveCopy_frame {sel : Nat} {s t : State} (h : waveCopy sel s = .next t) : CommandFrame s t := by
  simp only [waveCopy] at h
  split at h
  · cases h
  · split at h <;> cases h <;> exact { CommandFrame.refl s with }

theorem execWave_frame {sel : Nat} {s t : State} (h : execWave sel s = .next t) : CommandFrame s t := by
  simp only [execWave] at h
  split at h
  · cases h
    exact { CommandFrame.refl s with }
  · exact waveCopy_frame h
  · cases h
    exact { CommandFrame.refl s with }
  all_goals exact waveBegin_frame h

theorem execStart_frame {s t : State} (h : execStart s = .next t) : CommandFrame s t := by
  have hc := commandFrame_startChecks s
  simp only [execStart] at h
  split at h
  · cases h
    exact refuseCmd_frame s _
  · rename_i hs
    split at h <;> cases h
    · exact hc.trans (finish_frame _)
    · have hs' : s.startChecks.started = false := by rw [State.startChecks_frame]; simpa using hs
      exact (hc.trans (startEngine_frame hs')).trans (finish_frame _)

theorem hostMove_frame {x : BusTxn} {s t : State} (h : hostMove x s = .next t) : CommandFrame s t := by
  rcases hostMove_eq x s with ⟨_, _, _, he⟩ | ⟨_, _, he⟩ <;> cases he.symm.trans h <;>
    exact { CommandFrame.refl s with }

/-- No instruction touches what `CommandFrame` names. -/
theorem exec_frame {i : Instr} {s t : State} (h : exec i s = .next t) : CommandFrame s t := by
  cases i with
  | nop => cases h; exact finish_frame s
  | gen sel => exact execGen_frame h
  | genall => exact execGenall_frame h
  | setf imm => cases h; exact { CommandFrame.refl s with }
  | fdelta dir mag => cases h; exact { CommandFrame.refl s with }
  | mdelta dir => cases h; exact { CommandFrame.refl s with }
  | applydiv => exact execApplydiv_frame h
  | quiesce => cases h; exact { CommandFrame.refl s with }
  | resume => cases h; exact { CommandFrame.refl s with }
  | wave sel => exact execWave_frame h
  | start => exact execStart_frame h
  | rd addr => exact hostMove_frame (x := ⟨false, addr, 0#32⟩) h
  | wr addr data => exact hostMove_frame (x := ⟨true, addr, data⟩) h

/-- The sequencer's step touches nothing that `CommandFrame` names. -/
theorem seqMove_frame {s t : State} (h : seqMove s = .next t) : CommandFrame s t := by
  unfold seqMove at h
  split at h
  · cases h; exact CommandFrame.refl s
  · split at h
    · exact exec_frame h
    · cases h; exact refuseCmd_frame s _
  all_goals exact exec_frame h

theorem cycleHost_frame {x : Option BusTxn} {s t : State} (h : cycleHost x s = .next t) : CommandFrame s t := by
  cases x with
  | none => cases h; exact CommandFrame.refl s
  | some txn => exact hostMove_frame h

theorem seqClocked_frame {s t : State} (h : seqClocked s = .next t) : CommandFrame s t := by
  unfold seqClocked at h
  split at h
  · cases h; exact { CommandFrame.refl s with }
  · exact CommandFrame.trans (t := { s with genWait := 0 }) { CommandFrame.refl s with } (seqMove_frame h)

/-- The host and the sequencer together, the first two stages of a cycle, touch nothing that `CommandFrame` names. -/
theorem cycleFront_frame {x : Option BusTxn} {s t : State} (h : cycleFront x s = .next t) : CommandFrame s t := by
  unfold cycleFront at h
  split at h
  · rename_i s1 h1
    split at h
    · cases h; exact cycleHost_frame h1
    · exact (cycleHost_frame h1).trans (seqClocked_frame h)
  · cases h
  · cases h

/-! ## No move changes a parameter or the agenda -/

@[simp] theorem State.chanMove_params (s : State) (x : Chan) : (s.chanMove x).params = s.params := by
  obtain ⟨_, _, _, _, _, h⟩ := s.chanMove_frame x
  rw [h]

@[simp] theorem State.chanMove_agenda (s : State) (x : Chan) : (s.chanMove x).agenda = s.agenda := by
  obtain ⟨_, _, _, _, _, h⟩ := s.chanMove_frame x
  rw [h]

@[simp] theorem State.chanMove_presc (s : State) (x : Chan) : (s.chanMove x).presc = s.presc := by
  obtain ⟨_, _, _, _, _, h⟩ := s.chanMove_frame x
  rw [h]

@[simp] theorem State.chanMove_bsuEn (s : State) (x : Chan) : (s.chanMove x).bsuEn = s.bsuEn := by
  obtain ⟨_, _, _, _, _, h⟩ := s.chanMove_frame x
  rw [h]

@[simp] theorem State.chanMove_started (s : State) (x : Chan) : (s.chanMove x).started = s.started := by
  obtain ⟨_, _, _, _, _, h⟩ := s.chanMove_frame x
  rw [h]

@[simp] theorem State.chanMove_genWait (s : State) (x : Chan) : (s.chanMove x).genWait = s.genWait := by
  obtain ⟨_, _, _, _, _, h⟩ := s.chanMove_frame x
  rw [h]

@[simp] theorem State.bsuMove_params (s : State) : s.bsuMove.params = s.params := by rw [State.bsuMove_frame]
@[simp] theorem State.bsuMove_agenda (s : State) : s.bsuMove.agenda = s.agenda := by rw [State.bsuMove_frame]

@[simp] theorem State.clockEdge_params (s : State) : s.clockEdge.params = s.params := by rw [State.clockEdge_frame]
@[simp] theorem State.clockEdge_agenda (s : State) : s.clockEdge.agenda = s.agenda := by rw [State.clockEdge_frame]
@[simp] theorem State.clockEdge_bsuEn (s : State) : s.clockEdge.bsuEn = s.bsuEn := by rw [State.clockEdge_frame]
@[simp] theorem State.clockEdge_chA (s : State) : s.clockEdge.chA = s.chA := by rw [State.clockEdge_frame]
@[simp] theorem State.clockEdge_chB (s : State) : s.clockEdge.chB = s.chB := by rw [State.clockEdge_frame]
@[simp] theorem State.clockEdge_started (s : State) : s.clockEdge.started = s.started := by rw [State.clockEdge_frame]
@[simp] theorem State.clockEdge_genWait (s : State) : s.clockEdge.genWait = s.genWait := by rw [State.clockEdge_frame]

/-- No move changes a parameter, and no move chooses the moves to come. -/
theorem runMove_params_agenda {m : Move} {s t : State} (h : runMove m s = .next t) :
    t.params = s.params ∧ t.agenda = s.agenda := by
  cases m with
  | host x => exact ⟨(hostMove_frame h).params, (hostMove_frame h).agenda⟩
  | seq => exact ⟨(seqMove_frame h).params, (seqMove_frame h).agenda⟩
  | cha | chb | bsu | clock => cases h; simp
  | cycle x =>
    obtain ⟨_, s2, _, h2, _, _, rfl⟩ := cycleMove_cases h
    have hf := cycleFront_frame h2
    simp [State.dmaMove, hf.params, hf.agenda]
  | rst => cases h; exact ⟨rfl, rfl⟩

/-- Settles O47: `step` chooses a move, idles the bus and makes the move; none of the three touches a parameter. -/
theorem parametersNeverChange : Obligations.ParametersNeverChange := by
  intro s t h
  have hm := (runMove_params_agenda h).1
  rwa [nextMove_busIdle_eq] at hm

end Sys2Proof.Machine

/-! ## Construction and reset (spec/00_scope.md R10, R11, spec/10_state.md R45) -/

namespace Sys2Proof.Machine

/-- Legality is R11 together with the conditions of other rules (log 11). -/
theorem legal_iff_inScope_complete (p : Params) : p.legal = true ↔ p.inScope ∧ p.complete := by
  rw [Params.legal_iff, Params.inScope, Params.complete]
  tauto

/-- Parameters that are not legal are refused at construction. -/
theorem construct_refused {p : Params} (h : ¬ p.legal = true) : State.construct p = .refused .illegalParameters := by
  rw [State.construct, if_neg h]

theorem generated_ofParams (p : Params) (sel : Nat) : (State.ofParams p).generated sel = false := by
  simp [State.generated, State.ofParams]

/-- `FREQ` after reset is `F_INIT`, which fits its twenty bits (R26, R45). -/
theorem freq_ofParams {p : Params} (h : p.legal = true) : (State.ofParams p).freq.toNat = p.fInit := by
  have hp := (Params.legal_iff p).1 h
  simp only [State.ofParams, BitVec.toNat_ofNat]
  omega

theorem ofParams_registersInRange {p : Params} (h : p.legal = true) : RegistersInRange (State.ofParams p) := by
  have hp := (Params.legal_iff p).1 h
  exact {
    params_legal := h
    freq_low := by rw [freq_ofParams h]; omega
    freq_high := by rw [freq_ofParams h]; omega
    mult_range := Nat.zero_le _
    div_range := nofun
    shape_range := .inl rfl
    shape_has_div := fun hs => absurd rfl hs
    osrCnt_range := Nat.zero_le _
    txq_range := Nat.zero_le _
    bsu_started := nofun }

/-- A sequencer that is idle and not busy is consistent, whatever `cmd_reg` and `seq_idx` are (R37). -/
theorem SequencerConsistent.of_idle {s : State} (hb : s.cmdBusy = false) (hp : s.seqPhase = .idle) :
    SequencerConsistent s := by
  constructor <;> simp [hb, hp]

theorem ofParams_memoryConsistent (p : Params) : MemoryConsistent (State.ofParams p) where
  canonical := List.Pairwise.nil
  confined := nofun
  tables := fun sel _ hg => by simp [generated_ofParams] at hg
  active := fun hs => absurd rfl hs
  copied := nofun

/-- The reset state of a block with legal parameters meets the invariant (R45). -/
theorem ofParams_blockInvariant {p : Params} (h : p.legal = true) : BlockInvariant (State.ofParams p) where
  registers := ofParams_registersInRange h
  sequencer := .of_idle rfl rfl
  engine := ⟨nofun, fun _ => ⟨rfl, rfl, rfl, rfl, rfl⟩⟩
  memory := ofParams_memoryConsistent p
  stream := rfl

/-- Settles O42: legality is the two conditions of the statement together, and the reset state meets the invariant. -/
theorem constructionGivesInvariantOrRefuses : Obligations.ConstructionGivesInvariantOrRefuses := by
  intro p
  refine ⟨fun hs => construct_refused ?_, fun hc => construct_refused ?_, fun hs hc => ?_⟩
  · exact fun hl => hs ((legal_iff_inScope_complete p).1 hl).1
  · exact fun hl => hc ((legal_iff_inScope_complete p).1 hl).2
  · have hl : p.legal = true := (legal_iff_inScope_complete p).2 ⟨hs, hc⟩
    exact ⟨by rw [State.construct, if_pos hl], ofParams_blockInvariant hl⟩

/-- The multipliers of R10 are the powers of ten. -/
theorem standard_mult (k : Nat) (h : k ≤ 5) : Params.standard.mult[k]? = some (10 ^ k) := by
  revert k
  decide

/-- Every register of a descriptor is 0 after reset (R45). -/
theorem reset_chan (x : Chan) : State.reset.chan x = Channel.reset := by cases x <;> rfl

theorem channelReset_registers : Channel.reset.readAddr = 0#32 ∧ Channel.reset.writeAddr = 0#32 ∧
    Channel.reset.transCount = 0#32 ∧ Channel.reset.countReload = 0#32 ∧ ctrlWord Channel.reset.ctrl = 0#32 := by
  decide

/-- Settles O41: parameters, registers and memory of `State.reset`, each read off its definition. -/
theorem coreStartsAtStatedReset : Obligations.CoreStartsAtStatedReset := by
  refine ⟨rfl, ⟨rfl, rfl, rfl, rfl, rfl, rfl, rfl, rfl, rfl, standard_mult, rfl, rfl, rfl, rfl, by decide⟩,
    ⟨rfl, rfl, rfl, rfl, rfl, rfl, rfl, rfl, rfl, rfl, rfl, rfl, rfl, fun x => ?_, rfl, rfl, rfl, rfl, rfl, rfl, rfl,
      rfl, fun a => rfl⟩⟩
  rw [reset_chan]
  exact channelReset_registers

end Sys2Proof.Machine

/-! ## The sequencer: what leaves it alone, and what its own step does (spec/45_host_interface.md R246) -/

namespace Sys2Proof.Machine

/-- The two states agree on everything that `SequencerConsistent` and `State.seqRemaining` read. -/
structure SameSequencer (s t : State) : Prop where
  params : t.params = s.params
  cmdReg : t.cmdReg = s.cmdReg
  cmdBusy : t.cmdBusy = s.cmdBusy
  seqPhase : t.seqPhase = s.seqPhase
  seqIdx : t.seqIdx = s.seqIdx
  started : t.started = s.started
  bsuEn : t.bsuEn = s.bsuEn
  divValid : t.divValid = s.divValid
  genDone : t.genDone = s.genDone

namespace SameSequencer

variable {s t u : State}

theorem refl (s : State) : SameSequencer s s := ⟨rfl, rfl, rfl, rfl, rfl, rfl, rfl, rfl, rfl⟩

theorem trans (h : SameSequencer s t) (k : SameSequencer t u) : SameSequencer s u :=
  ⟨k.params.trans h.params, k.cmdReg.trans h.cmdReg, k.cmdBusy.trans h.cmdBusy, k.seqPhase.trans h.seqPhase,
    k.seqIdx.trans h.seqIdx, k.started.trans h.started, k.bsuEn.trans h.bsuEn, k.divValid.trans h.divValid,
    k.genDone.trans h.genDone⟩

theorem seqRemaining (h : SameSequencer s t) : t.seqRemaining = s.seqRemaining := by
  simp only [State.seqRemaining, h.params, h.cmdReg, h.seqPhase, h.seqIdx]

theorem consistent (h : SequencerConsistent s) (k : SameSequencer s t) : SequencerConsistent t := by
  obtain ⟨busy_iff, gen_loop, wave, copy_index, quiesced⟩ := h
  constructor <;>
    simpa only [State.generated, k.params, k.cmdReg, k.cmdBusy, k.seqPhase, k.seqIdx, k.started, k.bsuEn, k.divValid,
      k.genDone]

theorem chanMove (s : State) (x : Chan) : SameSequencer s (s.chanMove x) := by
  obtain ⟨_, _, _, _, _, h⟩ := s.chanMove_frame x
  rw [h]
  exact { refl s with }

theorem bsuMove (s : State) : SameSequencer s s.bsuMove := by
  rw [State.bsuMove_frame]
  exact { refl s with }

theorem clockEdge (s : State) : SameSequencer s s.clockEdge := by
  rw [State.clockEdge_frame]
  exact { refl s with }

theorem busIdle (s : State) : SameSequencer s s.busIdle := { refl s with }

/-- A host transaction leaves a busy sequencer alone: a command written then is refused (R243). -/
theorem hostMove {x : BusTxn} (hb : s.cmdBusy = true) (h : hostMove x s = .next t) : SameSequencer s t := by
  rcases hostMove_eq x s with ⟨_, _, _, he⟩ | ⟨hi, _⟩
  · cases he.symm.trans h
    exact { refl s with }
  · simp [hb] at hi

theorem cycleHost {x : Option BusTxn} (hb : s.cmdBusy = true) (h : cycleHost x s = .next t) : SameSequencer s t := by
  cases x with
  | none => cases h; exact refl s
  | some txn => exact hostMove hb h

end SameSequencer

theorem SequencerConsistent.busy {s : State} (h : SequencerConsistent s) (hp : s.seqPhase ≠ .idle) :
    s.cmdBusy = true := by
  cases hb : s.cmdBusy with
  | true => rfl
  | false => exact absurd (h.busy_iff.1 hb) hp

theorem SequencerConsistent.not_idle {s : State} (h : SequencerConsistent s) (hb : s.cmdBusy = true) :
    s.seqPhase ≠ .idle := by
  intro hp
  simp [h.busy_iff.2 hp] at hb

/-- An accepted command makes the sequencer consistent: no clause speaks of the phase `EXEC` (R244). -/
theorem SequencerConsistent.of_exec {s : State} (hb : s.cmdBusy = true) (hp : s.seqPhase = .exec) :
    SequencerConsistent s := by
  constructor <;> simp [hb, hp]

/-- A command in progress has a step left. -/
theorem seqRemaining_pos {s : State} (h : SequencerConsistent s) (hp : s.seqPhase ≠ .idle) : 0 < s.seqRemaining := by
  unfold State.seqRemaining
  split
  next hi => exact absurd hi hp
  next => split <;> omega
  next hg =>
    obtain ⟨_, hle, _⟩ := h.gen_loop hg
    omega
  all_goals omega

theorem seqRemaining_of_idle {s : State} (hp : s.seqPhase = .idle) : s.seqRemaining = 0 := by
  simp [State.seqRemaining, hp]

/-- No command needs more steps than `GENALL` or `WAVE` (R246). -/
theorem seqRemaining_le (s : State) : s.seqRemaining ≤ max 14 (s.params.words + 3) := by
  unfold State.seqRemaining
  split
  case h_2 => split <;> omega
  all_goals omega

/-! ### Each step of a command brings it nearer to its end -/

/-- The outcome `r` of a sequencer step from `s`: a next state, again consistent, with fewer steps left. -/
def State.AdvancesTo (s : State) (r : Result State) : Prop :=
  ∃ t, r = .next t ∧ SequencerConsistent t ∧ t.seqRemaining < s.seqRemaining

/-- The end of a command is an advance. -/
theorem State.AdvancesTo.of_idle {s t : State} (hs : 0 < s.seqRemaining) (hb : t.cmdBusy = false)
    (hp : t.seqPhase = .idle) : s.AdvancesTo (.next t) :=
  ⟨t, rfl, .of_idle hb hp, by rwa [seqRemaining_of_idle hp]⟩

/-- Every command but `GENALL` and `WAVE` ends in one step (R246). -/
theorem exec_single_step {i : Instr} (hg : i ≠ .genall) (hw : ∀ sel, i ≠ .wave sel)
    (hbus : (∀ a, i ≠ .rd a) ∧ ∀ a d, i ≠ .wr a d) (s : State) :
    ∃ t, exec i s = .next t ∧ t.cmdBusy = false ∧ t.seqPhase = .idle := by
  cases i with
  | nop | setf | fdelta | mdelta | quiesce | resume => exact ⟨_, rfl, rfl, rfl⟩
  | gen sel =>
    simp only [exec, execGen]
    split <;> exact ⟨_, rfl, rfl, rfl⟩
  | applydiv =>
    simp only [exec, execApplydiv]
    split <;> exact ⟨_, rfl, rfl, rfl⟩
  | start =>
    simp only [exec, execStart]
    split
    · exact ⟨_, rfl, rfl, rfl⟩
    · split <;> exact ⟨_, rfl, rfl, rfl⟩
  | genall => exact absurd rfl hg
  | wave sel => exact absurd rfl (hw sel)
  | rd a => exact absurd rfl (hbus.1 a)
  | wr a d => exact absurd rfl (hbus.2 a d)

section Advance

variable {s : State} (hl : s.params.legal = true) (h : SequencerConsistent s)

include h in
/-- Step 0 of `GENALL` (R132): refused, or thirteen tables to go. -/
theorem genallBegin_advances (hp : s.seqPhase = .exec) (hd : decodeCmd s.cmdReg = .ok .genall) :
    s.AdvancesTo (genallBegin s) := by
  have hr : s.seqRemaining = 14 := by simp [State.seqRemaining, hp, hd]
  unfold genallBegin
  split
  · exact .of_idle (by omega) rfl rfl
  · rename_i hs
    have hb := h.busy (by simp [hp])
    refine ⟨_, rfl, ?_, by rw [hr]; simp [State.seqRemaining]⟩
    exact {
      busy_iff := by simp [hb]
      gen_loop := fun _ => ⟨hd, Nat.zero_le _, by simpa using hs⟩
      wave := by simp
      copy_index := nofun
      quiesced := by simp }

include h in
/-- A later step of `GENALL` (R132): one table fewer to go, the last one ending the command. -/
theorem genallStep_advances (hp : s.seqPhase = .genLoop) : s.AdvancesTo (genallStep s) := by
  obtain ⟨hd, hi, hs⟩ := h.gen_loop hp
  have hr : s.seqRemaining = 13 - s.seqIdx.toNat := by simp [State.seqRemaining, hp]
  simp only [genallStep, if_neg (show ¬ 12 < s.seqIdx.toNat by omega)]
  split
  · exact .of_idle (by omega) rfl rfl
  · have hb := h.busy (by simp [hp])
    have hn : (BitVec.ofNat 9 (s.seqIdx.toNat + 1)).toNat = s.seqIdx.toNat + 1 := by
      rw [BitVec.toNat_ofNat]; omega
    refine ⟨_, rfl, ?_, ?_⟩
    · exact {
        busy_iff := by simp [hb, hp]
        gen_loop := fun _ => ⟨hd, by rw [hn]; omega, hs⟩
        wave := by simp [hp]
        copy_index := by simp [hp]
        quiesced := by simp [hp] }
    · simp only [State.seqRemaining, State.generate_seqPhase, hp, hn]
      omega

include h in
/-- Step 0 of `WAVE` (R224): refused, or the quiesce, `W` words and the resume to go. -/
theorem waveBegin_advances {sel : Nat} (hp : s.seqPhase = .exec) (hd : decodeCmd s.cmdReg = .ok (.wave sel)) :
    s.AdvancesTo (waveBegin sel s) := by
  have hr : s.seqRemaining = s.params.words + 3 := by simp [State.seqRemaining, hp, hd]
  unfold waveBegin
  split
  · exact .of_idle (by omega) rfl rfl
  · rename_i hsel
    cases hdiv : divisorLegal s.params s.wantedDivisor with
    | false =>
      rw [State.applyDivisor_illegal hdiv]
      exact .of_idle (by omega) rfl rfl
    | true =>
      rw [State.applyDivisor_legal hdiv]
      have hb := h.busy (by simp [hp])
      have hgen : sel ≤ 12 ∧ s.generated sel = true := by simpa using hsel
      refine ⟨_, rfl, ?_, by rw [hr]; simp [State.seqRemaining]⟩
      exact {
        busy_iff := by simp [hb]
        gen_loop := nofun
        wave := fun _ => ⟨sel, hgen.1, hd, hgen.2, rfl⟩
        copy_index := nofun
        quiesced := by simp }

include hl h in
/-- The quiesce step of `WAVE` (R221, R224): the words and the resume to go. -/
theorem waveQuiesce_advances (hp : s.seqPhase = .wvQuiesce) : s.AdvancesTo (waveQuiesce s) := by
  obtain ⟨hw, _, _⟩ := Params.words_of_legal hl
  have hb := h.busy (by simp [hp])
  have hwave := h.wave (.inl hp)
  refine ⟨_, rfl, ?_, by simp [State.seqRemaining, hp]⟩
  exact {
    busy_iff := by simp [hb]
    gen_loop := nofun
    wave := fun _ => hwave
    copy_index := fun _ => hw
    quiesced := fun _ => rfl }

include hl h in
/-- A copy step of `WAVE` (R222, R224): one word fewer to go, the last one leaving only the resume. -/
theorem waveCopy_advances (hp : s.seqPhase = .wvCopy) : s.AdvancesTo (waveCopy (shapeField s.cmdReg) s) := by
  obtain ⟨_, hw, _⟩ := Params.words_of_legal hl
  have hb := h.busy (by simp [hp])
  have hi := h.copy_index hp
  have hen := h.quiesced (.inl hp)
  have hwave := h.wave (.inr (.inl hp))
  have hr : s.seqRemaining = s.params.words - s.seqIdx.toNat + 1 := by simp [State.seqRemaining, hp]
  obtain ⟨sel, hsel, hd, _⟩ := h.wave (.inr (.inl hp))
  simp only [waveCopy, shapeField_of_decode_wave hd,
    if_neg (show ¬ (12 < sel ∨ s.params.words ≤ s.seqIdx.toNat) by omega)]
  split
  · refine ⟨_, rfl, ?_, by rw [hr]; simp [State.seqRemaining]; omega⟩
    exact {
      busy_iff := by simp [hb]
      gen_loop := nofun
      wave := fun _ => hwave
      copy_index := nofun
      quiesced := fun _ => hen }
  · have hn : (BitVec.ofNat 9 (s.seqIdx.toNat + 1)).toNat = s.seqIdx.toNat + 1 := by
      rw [BitVec.toNat_ofNat]; omega
    refine ⟨_, rfl, ?_, ?_⟩
    · exact {
        busy_iff := by simp [hb, hp]
        gen_loop := by simp [hp]
        wave := fun _ => hwave
        copy_index := fun _ => by simp only [hn, State.putWord_params]; omega
        quiesced := fun _ => hen }
    · simp only [State.seqRemaining, State.putWord_seqPhase, State.putWord_params, hp, hn]
      omega

include hl h in
/-- The sequencer's step is never a stop, and brings the command in progress nearer to its end (R246). -/
theorem seqMove_advances (hp : s.seqPhase ≠ .idle) : s.AdvancesTo (seqMove s) := by
  have hpos := seqRemaining_pos h hp
  unfold seqMove
  split
  next hi => exact absurd hi hp
  next he =>
    split
    next i hd =>
      by_cases hg : i = .genall
      · subst hg
        simp only [exec, execGenall, he]
        exact genallBegin_advances h he hd
      · by_cases hw : ∃ sel, i = .wave sel
        · obtain ⟨sel, rfl⟩ := hw
          simp only [exec, execWave, he]
          exact waveBegin_advances h he hd
        · obtain ⟨t, ht, hb, hi⟩ := exec_single_step hg (fun sel hs => hw ⟨sel, hs⟩) (decodeCmd_ne_bus hd) s
          rw [ht]
          exact .of_idle hpos hb hi
    next => exact .of_idle hpos rfl rfl
  next hg =>
    simp only [exec, execGenall, hg]
    exact genallStep_advances h hg
  next hq =>
    simp only [exec, execWave, hq]
    exact waveQuiesce_advances hl h hq
  next hc =>
    simp only [exec, execWave, hc]
    exact waveCopy_advances hl h hc
  next hr =>
    simp only [exec, execWave, hr]
    exact .of_idle hpos rfl rfl

end Advance

/-! ### The same for every move -/

theorem hostMove_keeps_sequencer {x : BusTxn} {s t : State} (h : SequencerConsistent s)
    (hm : hostMove x s = .next t) : SequencerConsistent t := by
  cases hb : s.cmdBusy with
  | true => exact (SameSequencer.hostMove hb hm).consistent h
  | false =>
    rcases hostMove_eq x s with ⟨_, _, _, he⟩ | ⟨_, w, he⟩ <;> cases he.symm.trans hm
    · exact SameSequencer.consistent h { SameSequencer.refl s with }
    · exact .of_exec rfl rfl

/-- A cycle with a command in progress (R305): the sequencer waits in a table-generation step, or it advances. -/
theorem cycleMove_sequencer {x : Option BusTxn} {s t : State} (hl : s.params.legal = true)
    (h : SequencerConsistent s) (hp : s.seqPhase ≠ .idle) (hm : cycleMove x s = .next t) :
    (s.givesTurn (.cycle x) .seq = false ∧ SameSequencer s t) ∨
      (SequencerConsistent t ∧ t.seqRemaining < s.seqRemaining) := by
  obtain ⟨s1, s2, h1, h2, _, hc, rfl⟩ := cycleMove_cases hm
  have same_host := SameSequencer.cycleHost (h.busy hp) h1
  have same_end : SameSequencer s2 s2.dmaMove.clockEdge := (SameSequencer.chanMove s2 _).trans (.clockEdge _)
  specialize hc hp
  unfold seqClocked at hc
  split at hc
  · rename_i hwait
    cases hc
    refine .inl ⟨by simp [State.givesTurn, cycleSchedules, stateAfter_of_next h1, hwait], ?_⟩
    exact SameSequencer.trans (t := { s1 with genWait := s1.genWait + 1 })
      (same_host.trans { SameSequencer.refl s1 with }) same_end
  · have same_turn : SameSequencer s { s1 with genWait := 0 } := same_host.trans { SameSequencer.refl s1 with }
    obtain ⟨t, ht, hcons, hlt⟩ := seqMove_advances (same_turn.params ▸ hl) (same_turn.consistent h)
      (by rw [same_turn.seqPhase]; exact hp)
    cases ht.symm.trans hc
    refine .inr ⟨same_end.consistent hcons, ?_⟩
    rwa [same_end.seqRemaining, ← same_turn.seqRemaining]

/-- With a command in progress a move leaves the sequencer alone, without giving it a turn, or the command comes nearer
to its end. -/
theorem runMove_sequencer {m : Move} {s t : State} (hl : s.params.legal = true) (h : SequencerConsistent s)
    (hb : s.cmdBusy = true) (hm : runMove m s = .next t) :
    (s.givesTurn m .seq = false ∧ SameSequencer s t) ∨ (SequencerConsistent t ∧ t.seqRemaining < s.seqRemaining) := by
  have hp := h.not_idle hb
  cases m with
  | host x => exact .inl ⟨rfl, .hostMove hb hm⟩
  | seq =>
    obtain ⟨u, hu, hcons, hlt⟩ := seqMove_advances hl h hp
    cases hu.symm.trans hm
    exact .inr ⟨hcons, hlt⟩
  | cha => cases hm; exact .inl ⟨rfl, .chanMove s .a⟩
  | chb => cases hm; exact .inl ⟨rfl, .chanMove s .b⟩
  | bsu => cases hm; exact .inl ⟨rfl, .bsuMove s⟩
  | clock => cases hm; exact .inl ⟨rfl, .clockEdge s⟩
  | cycle x => exact cycleMove_sequencer hl h hp hm
  | rst =>
    cases hm
    exact .inr ⟨.of_idle rfl rfl, (seqRemaining_of_idle rfl).trans_lt (seqRemaining_pos h hp)⟩

/-- The sequencer's part of the invariant is kept by every move. -/
theorem runMove_keeps_sequencer {m : Move} {s t : State} (hl : s.params.legal = true) (h : SequencerConsistent s)
    (hm : runMove m s = .next t) : SequencerConsistent t := by
  cases hb : s.cmdBusy with
  | true => exact (runMove_sequencer hl h hb hm).elim (fun hs => hs.2.consistent h) And.left
  | false =>
    have hp := h.busy_iff.1 hb
    cases m with
    | host x => exact hostMove_keeps_sequencer h hm
    | seq =>
      simp only [runMove, seqMove, hp] at hm
      cases hm
      exact h
    | cha => cases hm; exact (SameSequencer.chanMove s .a).consistent h
    | chb => cases hm; exact (SameSequencer.chanMove s .b).consistent h
    | bsu => cases hm; exact (SameSequencer.bsuMove s).consistent h
    | clock => cases hm; exact (SameSequencer.clockEdge s).consistent h
    | cycle x =>
      obtain ⟨s1, s2, h1, _, hidle, _, rfl⟩ := cycleMove_cases hm
      obtain rfl := hidle hp
      have hcons : SequencerConsistent s2 := by
        cases x with
        | none => cases h1; exact h
        | some txn => exact hostMove_keeps_sequencer h h1
      exact ((SameSequencer.chanMove s2 _).trans (.clockEdge _)).consistent hcons
    | rst => cases hm; exact .of_idle rfl rfl

/-- An agent's atomic step never stops the block while the sequencer is consistent (R8, R246). -/
theorem agentStep_next {m : Move} {s : State} (ha : m.isAgentStep = true) (hl : s.params.legal = true)
    (h : SequencerConsistent s) : ∃ t, runMove m s = .next t := by
  cases m with
  | host x => rcases hostMove_eq x s with ⟨_, _, _, he⟩ | ⟨_, _, he⟩ <;> exact ⟨_, he⟩
  | seq =>
    by_cases hp : s.seqPhase = .idle
    · exact ⟨s, by simp only [runMove, seqMove, hp]⟩
    · obtain ⟨t, ht, _⟩ := seqMove_advances hl h hp
      exact ⟨t, ht⟩
  | cha | chb | bsu => exact ⟨_, rfl⟩
  | clock | cycle | rst => simp [Move.isAgentStep] at ha

/-! ## Every command terminates (R246) -/

/-- An agent's step with a command in progress: it answers, and a step of the sequencer leaves at least one step
fewer. -/
theorem step_sequencer {s : State} {m : Move} {rest : List Move} (hag : s.agenda = m :: rest)
    (ha : m.isAgentStep = true) (hl : s.params.legal = true) (h : SequencerConsistent s) (hb : s.cmdBusy = true) :
    ∃ u, step s = .next u ∧ u.params = s.params ∧ u.agenda = rest ∧ SequencerConsistent u ∧
      u.seqRemaining + (if m == .seq then 1 else 0) ≤ s.seqRemaining := by
  rw [step_of_agenda hag]
  have same : SameSequencer s { s with agenda := rest, busAck := false, busErr := false } :=
    { SameSequencer.refl s with }
  have hcons := same.consistent h
  rw [← same.seqRemaining]
  obtain ⟨u, hu⟩ := agentStep_next ha (same.params ▸ hl) hcons
  obtain ⟨hpar, hagu⟩ := runMove_params_agenda hu
  refine ⟨u, hu, hpar, hagu, runMove_keeps_sequencer (same.params ▸ hl) hcons hu, ?_⟩
  rcases runMove_sequencer (same.params ▸ hl) hcons (same.cmdBusy.trans hb) hu with ⟨hturn, hsame⟩ | ⟨_, hlt⟩
  · have hm : m ≠ .seq := by rintro rfl; simp [State.givesTurn] at hturn
    simp [hm, hsame.seqRemaining]
  · split <;> omega

/-- The bounded form: as many steps of the sequencer as the command has left end it, whatever steps of the other agents
stand between them. Induction over the schedule. -/
theorem command_ends_within {ms : List Move} {s : State} (hl : s.params.legal = true) (h : SequencerConsistent s)
    (hag : s.agenda = ms) (hms : ∀ m, m ∈ ms → m.isAgentStep = true) (hc : s.seqRemaining ≤ ms.count .seq) :
    ∃ (k : Nat) (t : State), k ≤ ms.length ∧ runSteps k s = .next t ∧ t.cmdBusy = false := by
  induction ms generalizing s with
  | nil =>
    refine ⟨0, s, le_rfl, rfl, ?_⟩
    by_contra hb
    have hpos := seqRemaining_pos h (h.not_idle (by simpa using hb))
    simp only [List.count_nil] at hc
    omega
  | cons m rest ih =>
    cases hb : s.cmdBusy with
    | false => exact ⟨0, s, Nat.zero_le _, rfl, hb⟩
    | true =>
      obtain ⟨u, hstep, hpar, hagu, hcons, hle⟩ := step_sequencer hag (hms m List.mem_cons_self) hl h hb
      rw [List.count_cons] at hc
      obtain ⟨k, t, hk, hk_run, ht⟩ := ih (hpar ▸ hl) hcons hagu
        (fun m' hm' => hms m' (List.mem_cons_of_mem _ hm')) (by omega)
      exact ⟨k + 1, t, by simpa using hk, (runSteps_succ hstep).trans hk_run, ht⟩

section InfiniteRun

variable {schedule : Nat → Move} {trajectory : Nat → State} (hrun : IsRun schedule trajectory)

include hrun in
theorem isRun_params (k : Nat) : (trajectory k).params = (trajectory 0).params := by
  induction k with
  | zero => rfl
  | succ k ih => exact (runMove_params_agenda (hrun k)).1.trans ih

variable (hl : (trajectory 0).params.legal = true) (h0 : SequencerConsistent (trajectory 0))

include hrun hl in
theorem isRun_legal (k : Nat) : (trajectory k).params.legal = true := isRun_params hrun k ▸ hl

include hrun hl h0 in
theorem isRun_sequencer (k : Nat) : SequencerConsistent (trajectory k) := by
  induction k with
  | zero => exact h0
  | succ k ih =>
    exact runMove_keeps_sequencer (s := (trajectory k).busIdle) (isRun_legal hrun hl k)
      ((SameSequencer.busIdle _).consistent ih) (hrun k)

include hrun hl h0 in
/-- While the command lasts, the steps left do not rise from one state of a run to the next, and fall when the sequencer
gets its turn. -/
theorem isRun_seqRemaining {k : Nat} (hb : (trajectory k).cmdBusy = true) :
    (trajectory (k + 1)).seqRemaining ≤ (trajectory k).seqRemaining ∧
      ((trajectory k).busIdle.givesTurn (schedule k) .seq = true →
        (trajectory (k + 1)).seqRemaining < (trajectory k).seqRemaining) := by
  have same := SameSequencer.busIdle (trajectory k)
  have hcons := same.consistent (isRun_sequencer hrun hl h0 k)
  have hmove := runMove_sequencer (s := (trajectory k).busIdle) (isRun_legal hrun hl k) hcons hb (hrun k)
  rw [same.seqRemaining] at hmove
  rcases hmove with ⟨hturn, hsame⟩ | ⟨_, hlt⟩
  · exact ⟨(hsame.seqRemaining.trans same.seqRemaining).le, fun ht => by simp [hturn] at ht⟩
  · exact ⟨hlt.le, fun _ => hlt⟩

include hrun hl h0 in
theorem isRun_seqRemaining_antitone {k j : Nat} (hbusy : ∀ i, k ≤ i → (trajectory i).cmdBusy = true) (hkj : k ≤ j) :
    (trajectory j).seqRemaining ≤ (trajectory k).seqRemaining := by
  induction j, hkj using Nat.le_induction with
  | base => exact le_rfl
  | succ j hkj ih => exact (isRun_seqRemaining hrun hl h0 (hbusy j hkj)).1.trans ih

include hrun hl h0 in
/-- A sequencer that stays busy is enabled all the time, so a fair run gives it turn after turn, and each of `n` turns
lowers the steps left. -/
theorem fair_turns_lower_seqRemaining (hfair : WeaklyFair schedule trajectory) {k : Nat}
    (hbusy : ∀ i, k ≤ i → (trajectory i).cmdBusy = true) (n : Nat) :
    ∃ j, k ≤ j ∧ (trajectory j).seqRemaining + n ≤ (trajectory k).seqRemaining := by
  induction n with
  | zero => exact ⟨k, le_rfl, le_rfl⟩
  | succ n ih =>
    obtain ⟨j, hkj, hj⟩ := ih
    have henabled : ∀ i, j ≤ i → (trajectory i).enabled (schedule i).busReq .seq = true := fun i hi => by
      simpa [State.enabled] using (isRun_sequencer hrun hl h0 i).not_idle (hbusy i (hkj.trans hi))
    obtain ⟨i, hji, hturn⟩ := hfair .seq j henabled
    have hlt := (isRun_seqRemaining hrun hl h0 (hbusy i (hkj.trans hji))).2 hturn
    have hle := isRun_seqRemaining_antitone hrun hl h0 (fun l hl => hbusy l (hkj.trans hl)) hji
    exact ⟨i + 1, by omega, by omega⟩

include hrun hl h0 in
/-- The fair form: from no point on does a weakly fair run stay busy for ever. -/
theorem fair_run_returns_to_idle (hfair : WeaklyFair schedule trajectory) (k : Nat) :
    ∃ j, k ≤ j ∧ (trajectory j).cmdBusy = false := by
  by_contra hnever
  have hbusy : ∀ i, k ≤ i → (trajectory i).cmdBusy = true := fun i hi => by
    by_contra hb
    exact hnever ⟨i, hi, by simpa using hb⟩
  obtain ⟨j, _, hj⟩ :=
    fair_turns_lower_seqRemaining hrun hl h0 hfair hbusy ((trajectory k).seqRemaining + 1)
  omega

end InfiniteRun

/-- Settles O53: `seqRemaining` bounds the steps left, every step of the sequencer lowers it and no other move raises
it, so both a long enough schedule and a weakly fair run bring it to its end. -/
theorem commandsTerminate : Obligations.CommandsTerminate := by
  refine ⟨fun s ms hinv hag hms hc => ⟨seqRemaining_le s, ?_⟩, fun schedule trajectory hrun hinv hfair k => ?_⟩
  · exact command_ends_within hinv.registers.params_legal hinv.sequencer hag hms hc
  · exact fair_run_returns_to_idle hrun hinv.registers.params_legal hinv.sequencer hfair k

end Sys2Proof.Machine

/-! ## The reference schedule is weakly fair (spec/70_reset_and_hazards.md R305, spec/00_scope.md R8) -/

namespace Sys2Proof.Machine

/-! ### The channels take turns -/

/-- At most one channel is in a run, and none before `START` (R201, R202, R280). -/
structure ChannelsTakeTurns (s : State) : Prop where
  one_busy : s.chA.ctrl.busy = true → s.chB.ctrl.busy = false
  started : s.chA.ctrl.busy = true ∨ s.chB.ctrl.busy = true → s.started = true

theorem EngineConsistent.channelsTakeTurns {s : State} (h : EngineConsistent s) : ChannelsTakeTurns s := by
  cases hs : s.started with
  | true =>
    refine ⟨fun ha => ?_, fun _ => hs⟩
    rcases (h.1 hs).one_busy with ⟨_, hb, _⟩ | ⟨hna, _⟩
    · exact hb
    · simp [ha] at hna
  | false =>
    have hi := h.2 hs
    constructor <;> simp [hi.a_reset, hi.b_reset, Channel.reset]

theorem CommandFrame.channelsTakeTurns {s t : State} (hf : CommandFrame s t) (h : ChannelsTakeTurns s) :
    ChannelsTakeTurns t := by
  rcases hf.engine with ⟨ha, hb, hs⟩ | ⟨_, hst, _, hb⟩
  · exact ⟨ha ▸ hb ▸ h.one_busy, ha ▸ hb ▸ hs ▸ h.started⟩
  · exact ⟨fun _ => hb, fun _ => hst⟩

/-- At the end of its run a channel is not busy, even when it has triggered the other (R195). -/
theorem completeRun_not_busy (s : State) (x : Chan) : ((s.completeRun x).chan x).ctrl.busy = false := by
  simp only [State.completeRun]
  cases x <;> split <;> rfl

/-- A channel's move leaves both control words alone, or ends the run of a channel that was busy. -/
theorem chanMove_ctrl (s : State) (x : Chan) :
    ((s.chanMove x).chA.ctrl = s.chA.ctrl ∧ (s.chanMove x).chB.ctrl = s.chB.ctrl) ∨
      ((s.chan x).ctrl.busy = true ∧ ((s.chanMove x).chan x).ctrl.busy = false) := by
  simp only [State.chanMove]
  split
  · rename_i hr
    have hbusy : (s.chan x).ctrl.busy = true := by
      simp only [State.chanReady, Bool.and_eq_true] at hr
      exact hr.1.1.2
    simp only [State.chanStep]
    split
    · exact .inr ⟨hbusy, completeRun_not_busy _ x⟩
    · obtain ⟨_, _, _, _, h⟩ := s.moveWord_frame x
      rw [h]
      cases x <;> exact .inl ⟨rfl, rfl⟩
  · split
    · rename_i he
      have hbusy : (s.chan x).ctrl.busy = true := by
        simp only [State.chanEmptyReady, Bool.and_eq_true] at he
        exact he.1.2
      exact .inr ⟨hbusy, completeRun_not_busy _ x⟩
    · exact .inl ⟨rfl, rfl⟩

theorem chanMove_channelsTakeTurns {s : State} (h : ChannelsTakeTurns s) (x : Chan) :
    ChannelsTakeTurns (s.chanMove x) := by
  rcases chanMove_ctrl s x with ⟨ha, hb⟩ | ⟨hwas, hnow⟩
  · constructor <;> rw [ha, hb]
    · exact h.one_busy
    · simpa using h.started
  · have hs : s.started = true := h.started (by cases x with | a => exact .inl hwas | b => exact .inr hwas)
    refine ⟨fun ha => ?_, fun _ => by simpa using hs⟩
    cases x with
    | a => simp [ha] at hnow
    | b => exact hnow

theorem cycleMove_channelsTakeTurns {x : Option BusTxn} {s t : State} (h : ChannelsTakeTurns s)
    (hm : cycleMove x s = .next t) : ChannelsTakeTurns t := by
  obtain ⟨_, s2, _, h2, _, _, rfl⟩ := cycleMove_cases hm
  have h3 : ChannelsTakeTurns s2.dmaMove :=
    chanMove_channelsTakeTurns ((cycleFront_frame h2).channelsTakeTurns h) s2.dmaChannel
  exact ⟨by simpa using h3.one_busy, by simpa using h3.started⟩

/-- A channel with an enabled step is in a run (R191, R196). -/
theorem busy_of_enabled {s : State} {x : Chan} (h : (s.chanReady x || s.chanEmptyReady x) = true) :
    (s.chan x).ctrl.busy = true := by
  simp only [State.chanReady, State.chanEmptyReady, Bool.or_eq_true, Bool.and_eq_true] at h
  rcases h with ⟨⟨⟨_, hb⟩, _⟩, _⟩ | ⟨⟨_, hb⟩, _⟩ <;> exact hb

/-- When Channel A has a step, the cycle gives it the DMA master: Channel B is dormant, and stays so in the cycle's first
two stages. -/
theorem cycle_schedules_cha {x : Option BusTxn} {s t : State} (h : ChannelsTakeTurns s)
    (hm : cycleMove x s = .next t) (hen : s.enabled x.isSome .cha = true) : cycleSchedules x s .cha = true := by
  obtain ⟨_, s2, _, h2, _, _, _⟩ := cycleMove_cases hm
  have hbusy : s.chA.ctrl.busy = true := busy_of_enabled (x := .a) hen
  obtain ⟨_, hB, _⟩ := (cycleFront_frame h2).sameEngine (h.started (.inl hbusy))
  have hdormant : s2.chB.ctrl.busy = false := hB ▸ h.one_busy hbusy
  simp [cycleSchedules, stateAfter_of_next h2, State.dmaChannel, State.chanReady, State.chanEmptyReady, hdormant]

/-- When Channel B has a step, the cycle gives it the DMA master: the first two stages leave its step enabled. -/
theorem cycle_schedules_chb {x : Option BusTxn} {s t : State} (h : ChannelsTakeTurns s)
    (hm : cycleMove x s = .next t) (hen : s.enabled x.isSome .chb = true) : cycleSchedules x s .chb = true := by
  obtain ⟨_, s2, _, h2, _, _, _⟩ := cycleMove_cases hm
  have hready : (s.chanReady .b || s.chanEmptyReady .b) = true := hen
  have hbusy : s.chB.ctrl.busy = true := busy_of_enabled hready
  have hf := cycleFront_frame h2
  obtain ⟨_, hB, _⟩ := hf.sameEngine (h.started (.inr hbusy))
  have hen2 : (s2.chanReady .b || s2.chanEmptyReady .b) = true := by
    simp only [State.chanReady, State.chanEmptyReady, State.paceOk, State.chan_b, hB, hf.txq, hf.params]
    exact hready
  simp only [cycleSchedules, stateAfter_of_next h2, State.dmaChannel, if_pos hen2, decide_true]

/-! ### The sequencer waits at most `T_GEN` cycles -/

theorem cycleHost_genWait {x : Option BusTxn} {s t : State} (h : cycleHost x s = .next t) : t.genWait = s.genWait := by
  cases x with
  | none => cases h; rfl
  | some txn => rcases hostMove_eq txn s with ⟨_, _, _, he⟩ | ⟨_, _, he⟩ <;> cases he.symm.trans h <;> rfl

/-- A cycle without a turn for a sequencer that has a step is a cycle of waiting (R305): it counts, within `T_GEN`. -/
theorem cycle_waits {x : Option BusTxn} {s t : State} (hm : cycleMove x s = .next t) (hp : s.seqPhase ≠ .idle)
    (hturn : cycleSchedules x s .seq = false) : t.genWait = s.genWait + 1 ∧ t.genWait < s.params.tGen := by
  obtain ⟨s1, s2, h1, _, _, hc, rfl⟩ := cycleMove_cases hm
  have hwait : s1.seqWaits = true := by simpa [cycleSchedules, stateAfter_of_next h1, hp] using hturn
  have hs1 : s1.genWait + 1 < s1.params.tGen := by
    simp only [State.seqWaits, Bool.and_eq_true, decide_eq_true_eq] at hwait
    exact hwait.2
  rw [cycleHost_genWait h1, (cycleHost_frame h1).params] at hs1
  have hc := hc hp
  rw [seqClocked, if_pos hwait] at hc
  cases hc
  simpa [State.dmaMove, cycleHost_genWait h1] using hs1

/-! ### The prescaler reaches its tick -/

/-- A cycle that ends enabled and in which the BSU got no turn has counted the prescaler down (R176). -/
theorem cycle_counts_down {x : Option BusTxn} {s t : State} (hm : cycleMove x s = .next t) (hen : t.bsuEn = true)
    (hturn : cycleSchedules x s .bsu = false) : t.presc.toNat + 1 = s.presc.toNat := by
  obtain ⟨_, s2, _, h2, _, _, rfl⟩ := cycleMove_cases hm
  have hpresc : s2.dmaMove.presc = s.presc := by simp [State.dmaMove, (cycleFront_frame h2).presc]
  have hen3 : s2.dmaMove.bsuEn = true := by simpa using hen
  have hlate : 1 < s2.dmaMove.presc.toNat := by
    simpa [cycleSchedules, stateAfter_of_next h2, State.atTick, hen3] using hturn
  have hlt := s2.dmaMove.presc.isLt
  rw [State.clockEdge, if_pos hen3, if_neg (by omega), ← hpresc]
  simp only [BitVec.toNat_sub, BitVec.toNat_ofNat]
  omega

/-! ### Runs of cycles -/

section CycleRun

variable {schedule : Nat → Move} {trajectory : Nat → State} {txn : Nat → Option BusTxn}
  (hrun : IsRun schedule trajectory) (hcyc : ∀ k, schedule k = .cycle (txn k))

include hrun hcyc in
theorem cycleRun_step (k : Nat) : cycleMove (txn k) (trajectory k).busIdle = .next (trajectory (k + 1)) := by
  have h := hrun k
  rwa [hcyc k] at h

include hrun hcyc in
theorem cycleRun_channelsTakeTurns (h0 : ChannelsTakeTurns (trajectory 0)) (k : Nat) :
    ChannelsTakeTurns (trajectory k) := by
  induction k with
  | zero => exact h0
  | succ k ih =>
    have hidle : ChannelsTakeTurns (trajectory k).busIdle := ⟨ih.one_busy, ih.started⟩
    exact cycleMove_channelsTakeTurns hidle (cycleRun_step hrun hcyc k)

include hrun hcyc in
/-- A sequencer that always has a step gets a turn: each cycle without one uses up one of the `T_GEN` cycles that a step
may wait. -/
theorem cycleRun_seq_turn {k : Nat} (hp : ∀ j, k ≤ j → (trajectory j).seqPhase ≠ .idle) :
    ∃ j, k ≤ j ∧ cycleSchedules (txn j) (trajectory j).busIdle .seq = true := by
  by_contra! hnever
  refine not_strictAnti_of_wellFoundedLT (fun n => (trajectory 0).params.tGen - (trajectory (k + n)).genWait)
    (strictAnti_nat_of_succ_lt fun n => ?_)
  have hwait := cycle_waits (s := (trajectory (k + n)).busIdle) (cycleRun_step hrun hcyc _) (hp _ (by omega))
    (by simpa using hnever (k + n) (by omega))
  rw [State.busIdle_genWait, State.busIdle_params, isRun_params hrun, Nat.add_assoc] at hwait
  omega

include hrun hcyc in
/-- A BSU that stays enabled gets a turn: each cycle without one counts `presc` down. -/
theorem cycleRun_bsu_turn {k : Nat} (hen : ∀ j, k ≤ j → (trajectory j).bsuEn = true) :
    ∃ j, k ≤ j ∧ cycleSchedules (txn j) (trajectory j).busIdle .bsu = true := by
  by_contra! hnever
  refine not_strictAnti_of_wellFoundedLT (fun n => (trajectory (k + n)).presc.toNat)
    (strictAnti_nat_of_succ_lt fun n => ?_)
  have hcount := cycle_counts_down (s := (trajectory (k + n)).busIdle) (cycleRun_step hrun hcyc _)
    (hen _ (by omega)) (by simpa using hnever (k + n) (by omega))
  rw [State.busIdle_presc, Nat.add_assoc] at hcount
  omega

end CycleRun

/-- Settles O54: the host and the channels get their turn in the very cycle in which they have a step, the sequencer
within `T_GEN` cycles, the BSU when the prescaler has counted down. -/
theorem referenceScheduleIsWeaklyFair : Obligations.ReferenceScheduleIsWeaklyFair := by
  intro schedule trajectory txn hrun hinv hcyc x k hen
  have hturns := cycleRun_channelsTakeTurns hrun hcyc hinv.engine.channelsTakeTurns k
  have hidle : ChannelsTakeTurns (trajectory k).busIdle := ⟨hturns.one_busy, hturns.started⟩
  simp only [hcyc, State.givesTurn] at hen ⊢
  cases x with
  | host =>
    have hreq := hen k le_rfl
    refine ⟨k, le_rfl, ?_⟩
    cases hx : txn k with
    | none => simp [hx, State.enabled, Move.busReq] at hreq
    | some _ => rfl
  | seq => exact cycleRun_seq_turn hrun hcyc fun j hj => by simpa [State.enabled] using hen j hj
  | cha => exact ⟨k, le_rfl, cycle_schedules_cha hidle (cycleRun_step hrun hcyc k) (hen k le_rfl)⟩
  | chb => exact ⟨k, le_rfl, cycle_schedules_chb hidle (cycleRun_step hrun hcyc k) (hen k le_rfl)⟩
  | bsu =>
    refine cycleRun_bsu_turn hrun hcyc fun j hj => ?_
    have hb : (trajectory j).bsuEnabled = true := hen j hj
    simp only [State.bsuEnabled, Bool.and_eq_true] at hb
    exact hb.1

end Sys2Proof.Machine

/-! ## The block invariant is kept by every step

The sequencer's part is `runMove_keeps_sequencer`. The other four parts speak of the data; each operation of the block
keeps them together, and an instruction is a chain of such operations. -/

namespace Sys2Proof.Machine

/-- The parts of the block invariant that do not speak of the sequencer's own state. -/
structure DataInvariant (s : State) : Prop where
  registers : RegistersInRange s
  engine : EngineConsistent s
  memory : MemoryConsistent s
  stream : StreamOrdered s

theorem BlockInvariant.data {s : State} (h : BlockInvariant s) : DataInvariant s :=
  ⟨h.registers, h.engine, h.memory, h.stream⟩

theorem DataInvariant.block {s : State} (h : DataInvariant s) (hq : SequencerConsistent s) : BlockInvariant s :=
  ⟨h.registers, hq, h.engine, h.memory, h.stream⟩

/-! ### What each part reads -/

/-- The engine's part reads the parameters, the descriptors, `STARTED`, `SHAPE_SEL`, memory, the queue, `osr_cnt` and
the ghost of the pushes. -/
theorem EngineConsistent.of_unread {s t : State} (h : EngineConsistent s)
    (ht : t = { s with
      cmdReg := t.cmdReg, cmdBusy := t.cmdBusy, seqPhase := t.seqPhase, seqIdx := t.seqIdx, freq := t.freq,
      multIdx := t.multIdx, divReg := t.divReg, divValid := t.divValid, bsuEn := t.bsuEn, err := t.err,
      genDone := t.genDone, pins := t.pins, osr := t.osr, presc := t.presc, outTrace := t.outTrace,
      agenda := t.agenda, freeCtr := t.freeCtr, busRdata := t.busRdata, busAck := t.busAck, busErr := t.busErr,
      genWait := t.genWait }) : EngineConsistent t := by
  rw [ht]
  exact ⟨fun hs => { h.1 hs with }, fun hs => { h.2 hs with }⟩

/-- The memory's part reads the parameters, memory, `gen_done`, `SHAPE_SEL`, and of the sequencer `cmd_reg`, `seq_phase`
and `seq_idx`. -/
theorem MemoryConsistent.of_unread {s t : State} (h : MemoryConsistent s)
    (ht : t = { s with
      cmdBusy := t.cmdBusy, freq := t.freq, multIdx := t.multIdx, divReg := t.divReg, divValid := t.divValid,
      started := t.started, bsuEn := t.bsuEn, err := t.err, chA := t.chA, chB := t.chB, txq := t.txq, osr := t.osr,
      osrCnt := t.osrCnt, pins := t.pins, presc := t.presc, outTrace := t.outTrace, pushTrace := t.pushTrace,
      agenda := t.agenda, freeCtr := t.freeCtr, busRdata := t.busRdata, busAck := t.busAck, busErr := t.busErr,
      genWait := t.genWait }) : MemoryConsistent t := by
  rw [ht]
  exact { h with }

/-- Outside a copy, the memory's part holds on in any phase that is no copy, or a copy not yet begun. -/
theorem MemoryConsistent.of_control {s t : State} (h : MemoryConsistent s) (hs : s.seqPhase ≠ .wvCopy)
    (hcopy : t.seqPhase = .wvCopy → t.seqIdx = 0#9)
    (ht : t = { s with
      cmdReg := t.cmdReg, cmdBusy := t.cmdBusy, seqPhase := t.seqPhase, seqIdx := t.seqIdx, bsuEn := t.bsuEn,
      busAck := t.busAck, busErr := t.busErr }) : MemoryConsistent t := by
  rw [ht]
  exact {
    canonical := h.canonical
    confined := h.confined
    tables := h.tables
    active := fun hsel _ => h.active hsel hs
    copied := fun hc sel _ w hw => by
      have hidx : t.seqIdx = 0#9 := hcopy hc
      simp [hidx] at hw }

/-! ### Operations that write no data of the engine, memory or stream -/

namespace DataInvariant

variable {s t : State}

/-- An operation on the rate registers, the enable, the flags or the outputs keeps the data parts when the registers
stay in their ranges. -/
theorem of_registers (h : DataInvariant s) (hr : RegistersInRange t)
    (ht : t = { s with
      freq := t.freq, multIdx := t.multIdx, divReg := t.divReg, divValid := t.divValid, bsuEn := t.bsuEn, err := t.err,
      presc := t.presc, agenda := t.agenda, freeCtr := t.freeCtr, busRdata := t.busRdata, busAck := t.busAck,
      busErr := t.busErr, genWait := t.genWait }) : DataInvariant t where
  registers := hr
  engine := h.engine.of_unread (by rw [ht])
  memory := h.memory.of_unread (by rw [ht])
  stream := by rw [ht]; exact h.stream

/-- An operation on the sequencer's own state outside a copy. -/
theorem of_control (h : DataInvariant s) (hs : s.seqPhase ≠ .wvCopy) (hcopy : t.seqPhase = .wvCopy → t.seqIdx = 0#9)
    (ht : t = { s with
      cmdReg := t.cmdReg, cmdBusy := t.cmdBusy, seqPhase := t.seqPhase, seqIdx := t.seqIdx,
      busAck := t.busAck, busErr := t.busErr }) : DataInvariant t where
  registers := by rw [ht]; exact { h.registers with }
  engine := h.engine.of_unread (by rw [ht])
  memory := h.memory.of_control hs hcopy (by rw [ht])
  stream := by rw [ht]; exact h.stream

theorem finish (h : DataInvariant s) (hs : s.seqPhase ≠ .wvCopy) : DataInvariant s.finish :=
  h.of_control hs nofun rfl

theorem refuseCmd (h : DataInvariant s) (hs : s.seqPhase ≠ .wvCopy) (e : ErrCause) : DataInvariant (s.refuseCmd e) :=
  finish (h.of_registers (t := s.raise e) { h.registers with } rfl) hs

theorem startChecks (h : DataInvariant s) : DataInvariant s.startChecks := by
  rw [State.startChecks_frame]
  exact h.of_registers { h.registers with } rfl

/-- Any requested frequency is clamped into its range (R26, R153). -/
theorem set_freq (h : DataInvariant s) (v : Int) : DataInvariant { s with freq := freqOf v } := by
  obtain ⟨hlow, hhigh⟩ := clampF_range v
  rw [← freqOf_toNat] at hlow hhigh
  exact h.of_registers { h.registers with freq_low := hlow, freq_high := hhigh } rfl

/-- The multiplier index stays in its range (R27, R156). -/
theorem step_mult (h : DataInvariant s) (dir : Direction) :
    DataInvariant { s with multIdx := steppedMult s.params s.multIdx dir } := by
  have hr := h.registers
  obtain ⟨_, _, _, _, _, _, _, _, _, _, _, hmax, _⟩ := (Params.legal_iff s.params).1 hr.params_legal
  have hmult : (steppedMult s.params s.multIdx dir).toNat ≤ s.params.multMax := by
    have := hr.mult_range
    rw [steppedMult_toNat hmax]
    cases dir <;> simp only <;> omega
  exact h.of_registers { hr with mult_range := hmult } rfl

/-- A divisor that the Clock Rate Controller writes is in range, and valid (R28, R157). -/
theorem applyDivisor (h : DataInvariant s) (hd : divisorLegal s.params s.wantedDivisor = true) :
    DataInvariant { s with divReg := BitVec.ofNat 16 s.wantedDivisor, divValid := true } := by
  have hr := h.registers
  obtain ⟨_, _, _, _, _, _, _, _, _, _, hmax, _⟩ := (Params.legal_iff s.params).1 hr.params_legal
  obtain ⟨hlow, hhigh⟩ : 1 ≤ s.wantedDivisor ∧ s.wantedDivisor ≤ s.params.divMax := by simpa [divisorLegal] using hd
  have hnat : (BitVec.ofNat 16 s.wantedDivisor).toNat = s.wantedDivisor := by
    rw [BitVec.toNat_ofNat]
    omega
  exact h.of_registers
    { hr with div_range := fun _ => by rw [hnat]; exact ⟨hlow, hhigh⟩, shape_has_div := fun _ => rfl } rfl

theorem quiesceBsu (h : DataInvariant s) : DataInvariant s.quiesceBsu :=
  h.of_registers { h.registers with bsu_started := nofun } rfl

theorem resumeBsu (h : DataInvariant s) : DataInvariant s.resumeBsu :=
  h.of_registers { h.registers with bsu_started := id } rfl

end DataInvariant

/-! ### The stores of the commands -/

/-- A table slot holds every legal table, so the slots, `LIT` and `ACTIVE` are apart (R60, R61). -/
theorem shapeBase_bounds {sel : Nat} (hs : sel ≤ 12) : 0x4000 ≤ shapeBase sel ∧ shapeBase sel + 0x400 ≤ 0x7400 := by
  simp only [shapeBase]
  omega

theorem shapeBase_apart {sel sel' : Nat} (h : sel' ≠ sel) :
    shapeBase sel' + 0x400 ≤ shapeBase sel ∨ shapeBase sel + 0x400 ≤ shapeBase sel' := by
  simp only [shapeBase]
  omega

/-- Generating a table before `START` (R130): its slot then holds it, and no other word of memory changes. -/
theorem DataInvariant.generate {s : State} (h : DataInvariant s) {sel : Nat} (hs : sel ≤ 12)
    (hst : s.started = false) : DataInvariant (s.generate sel) := by
  obtain ⟨hr, he, hm, hstream⟩ := h
  obtain ⟨_, hw, _⟩ := Params.words_of_legal hr.params_legal
  have hbase := shapeBase_bounds hs
  refine ⟨{ hr with }, ⟨fun ht => ?_, fun _ => { he.2 hst with }⟩, ?_, hstream⟩
  · simp [hst] at ht
  · exact {
      canonical := Memory.insertWords_wf hm.canonical _ _
      confined := fun c hc => by
        rcases Memory.mem_insertWords hc with hc | hc
        · exact .inr (.inl ⟨sel, hs, by simpa using hc⟩)
        · exact hm.confined c hc
      tables := fun sel' hs' hg w hlt => by
        by_cases hsel : sel' = sel
        · subst hsel
          exact s.wordAt_generate sel' w hlt
        · have hgen : s.generated sel' = true := by simpa [State.generated_generate s sel sel' hs, hsel] using hg
          have hapart := shapeBase_apart hsel
          have hlt' : w < s.params.words := hlt
          rw [State.wordAt_generate_outside _ _ _ (by omega)]
          exact hm.tables sel' hs' hgen w hlt
      active := fun hsel hp w hlt => by
        rw [State.wordAt_generate_outside _ _ _ (by simp only [activeBase]; omega)]
        exact hm.active hsel hp w hlt
      copied := fun hp sel' hd w hlt => by
        rw [State.wordAt_generate_outside _ _ _ (by simp only [activeBase]; omega)]
        exact hm.copied hp sel' hd w hlt }

/-- Copying word `w` of a generated table (R222) extends what `ACTIVE` holds of it. -/
theorem State.activeHolds.putWord {s : State} {sel w : Nat} {v : Word} (h : s.activeHolds sel w)
    (hv : v = packedWord s.params sel w) : (s.putWord (activeBase + 4 * w) v).activeHolds sel (w + 1) := by
  intro w' hlt
  by_cases heq : w' = w
  · subst heq
    rw [State.wordAt_putWord_same, hv, State.putWord_params]
  · rw [State.wordAt_putWord_other _ _ _ _ (by omega)]
    exact h w' (by omega)

/-- A word stored to `ACTIVE` while the copy goes on or ends (R222): what the new `SHAPE_SEL`, phase and index claim of
`ACTIVE` has to be shown, everything else is kept. -/
theorem DataInvariant.store_active {s : State} (h : DataInvariant s) {w : Nat} {v : Word} {shape : BitVec 4}
    {phase : SeqPhase} {idx : BitVec 9} (hw : w < s.params.words)
    (hrange : shape = noShape ∨ shape.toNat ≤ 12) (hdiv : shape ≠ noShape → s.divValid = true)
    (hloaded : s.shapeSel ≠ noShape → shape ≠ noShape)
    (hactive : shape ≠ noShape → phase ≠ .wvCopy →
      (s.putWord (activeBase + 4 * w) v).activeHolds shape.toNat s.params.words)
    (hcopied : phase = .wvCopy → ∀ sel, decodeCmd s.cmdReg = .ok (.wave sel) →
      (s.putWord (activeBase + 4 * w) v).activeHolds sel idx.toNat) :
    DataInvariant { s.putWord (activeBase + 4 * w) v with shapeSel := shape, seqPhase := phase, seqIdx := idx } := by
  obtain ⟨hr, he, hm, hstream⟩ := h
  obtain ⟨_, hwords, _⟩ := Params.words_of_legal hr.params_legal
  refine ⟨{ hr with shape_range := hrange, shape_has_div := hdiv },
    ⟨fun hs => ?_, fun hs => { he.2 hs with }⟩, ?_, hstream⟩
  · have hlit : (s.putWord (activeBase + 4 * w) v).wordAt litAddr = s.wordAt litAddr :=
      State.wordAt_putWord_other _ _ _ _ (by simp only [activeBase, litAddr]; omega)
    have hrun := he.1 hs
    exact { hrun with literal := hlit.trans hrun.literal, loaded := hloaded hrun.loaded }
  · exact {
      canonical := Memory.insertWord_wf hm.canonical _ _
      confined := fun c hc => by
        rcases Memory.mem_insertWord hc with hc | hc
        · exact .inr (.inr ⟨by omega, by simp only [State.putWord_params]; omega⟩)
        · exact hm.confined c hc
      tables := fun sel hs hg w' hlt => by
        have hbase := shapeBase_bounds hs
        have hlt' : w' < s.params.words := hlt
        have hother := State.wordAt_putWord_other s (activeBase + 4 * w) (shapeBase sel + 4 * w') v
          (by simp only [activeBase]; omega)
        exact hother.trans (hm.tables sel hs hg w' hlt)
      active := hactive
      copied := hcopied }

/-- A successful `START` (R199): the engine then runs, at the beginning of its first lap. -/
theorem DataInvariant.startEngine {s : State} (h : DataInvariant s) (hst : s.started = false)
    (hsel : s.shapeSel ≠ noShape) : DataInvariant s.startEngine := by
  obtain ⟨hr, he, hm, hstream⟩ := h
  obtain ⟨hpos, hwords, _⟩ := Params.words_of_legal hr.params_legal
  have hidle := he.2 hst
  have hcount : (BitVec.ofNat 32 s.params.words).toNat = s.params.words := by
    rw [BitVec.toNat_ofNat]
    omega
  have houtside (b : Nat) (hb : 0x4000 ≤ b) (v : Word) : (s.putWord litAddr v).wordAt b = s.wordAt b :=
    State.wordAt_putWord_other _ _ _ _ (by simp only [litAddr]; omega)
  refine ⟨{ hr with bsu_started := fun _ => rfl }, ⟨fun _ => ?_, nofun⟩, ?_, hstream⟩
  · exact {
      a_write := rfl
      a_reload := rfl
      a_ctrl := rfl
      a_count := hcount.le
      a_read := by
        show (BitVec.ofNat 32 activeBase).toNat =
          activeBase + 4 * (s.params.words - (BitVec.ofNat 32 s.params.words).toNat)
        rw [hcount, Nat.sub_self]
        rfl
      b_read := rfl
      b_write := rfl
      b_reload := rfl
      b_ctrl := rfl
      one_busy := .inl ⟨rfl, rfl, by show 1 ≤ (BitVec.ofNat 32 s.params.words).toNat; omega, rfl⟩
      literal := s.wordAt_putWord_same litAddr _
      loaded := hsel
      lap_position := by
        show s.pushTrace.length % s.params.words =
          (s.params.words - (BitVec.ofNat 32 s.params.words).toNat) % s.params.words
        rw [hcount, hidle.nothing_pushed, Nat.sub_self, List.length_nil] }
  · exact {
      canonical := Memory.insertWord_wf hm.canonical _ _
      confined := fun c hc => by
        rcases Memory.mem_insertWord hc with hc | hc
        · exact .inl hc
        · exact hm.confined c hc
      tables := fun sel hs hg w hlt => by
        have hbase := shapeBase_bounds hs
        exact (houtside _ (by omega) _).trans (hm.tables sel hs hg w hlt)
      active := fun hs hp w hlt =>
        (houtside _ (by simp only [activeBase]; omega) _).trans (hm.active hs hp w hlt)
      copied := fun hp sel hd w hlt =>
        (houtside _ (by simp only [activeBase]; omega) _).trans (hm.copied hp sel hd w hlt) }

/-! ### The sequencer's steps, command by command -/

section Commands

variable {s t : State} (h : BlockInvariant s)

include h in
/-- `GEN s` (R131). -/
theorem execGen_keeps_data (hp : s.seqPhase = .exec) {sel : Nat} (hm : execGen sel s = .next t) :
    DataInvariant t := by
  unfold execGen at hm
  split at hm <;> cases hm
  · exact h.data.refuseCmd (by simp [hp]) _
  · rename_i hok
    obtain ⟨hst, hs⟩ : s.started = false ∧ sel ≤ 12 := by simpa using hok
    exact (h.data.generate hs hst).finish (by simp [hp])

include h in
/-- `GENALL`, step 0 (R132). -/
theorem genallBegin_keeps_data (hp : s.seqPhase = .exec) (hm : genallBegin s = .next t) : DataInvariant t := by
  unfold genallBegin at hm
  split at hm <;> cases hm
  · exact h.data.refuseCmd (by simp [hp]) _
  · exact h.data.of_control (by simp [hp]) nofun rfl

include h in
/-- `GENALL`, each later step (R132): `START` has not happened, so a table may be generated. -/
theorem genallStep_keeps_data (hp : s.seqPhase = .genLoop) (hm : genallStep s = .next t) : DataInvariant t := by
  obtain ⟨_, hi, hst⟩ := h.sequencer.gen_loop hp
  have hgen := h.data.generate hi hst
  have hnocopy : (s.generate s.seqIdx.toNat).seqPhase ≠ .wvCopy := by simp [hp]
  simp only [genallStep, if_neg (show ¬ 12 < s.seqIdx.toNat by omega)] at hm
  split at hm <;> cases hm
  · exact hgen.finish hnocopy
  · exact hgen.of_control hnocopy (fun hc => absurd hc hnocopy) rfl

include h in
/-- `APPLYDIV` (R157). -/
theorem execApplydiv_keeps_data (hp : s.seqPhase = .exec) (hm : execApplydiv s = .next t) : DataInvariant t := by
  unfold execApplydiv at hm
  cases hd : divisorLegal s.params s.wantedDivisor with
  | true =>
    rw [State.applyDivisor_legal hd] at hm
    cases hm
    exact (h.data.applyDivisor hd).finish (by simp [hp])
  | false =>
    rw [State.applyDivisor_illegal hd] at hm
    cases hm
    exact h.data.refuseCmd (by simp [hp]) _

include h in
/-- `WAVE s`, step 0 (R224). -/
theorem waveBegin_keeps_data (hp : s.seqPhase = .exec) {sel : Nat} (hm : waveBegin sel s = .next t) :
    DataInvariant t := by
  unfold waveBegin at hm
  split at hm
  · cases hm
    exact h.data.refuseCmd (by simp [hp]) _
  · cases hd : divisorLegal s.params s.wantedDivisor with
    | true =>
      rw [State.applyDivisor_legal hd] at hm
      cases hm
      exact (h.data.applyDivisor hd).of_control (by simp [hp]) nofun rfl
    | false =>
      rw [State.applyDivisor_illegal hd] at hm
      cases hm
      exact h.data.refuseCmd (by simp [hp]) _

include h in
/-- `WAVE s`, the quiesce (R221): the copy begins with no word of `ACTIVE` claimed. -/
theorem waveQuiesce_keeps_data (hp : s.seqPhase = .wvQuiesce) (hm : waveQuiesce s = .next t) : DataInvariant t := by
  cases hm
  exact h.data.quiesceBsu.of_control (by simp [hp]) (fun _ => rfl) rfl

include h in
/-- `WAVE s`, a copy step (R222): one more word of `ACTIVE` holds the table, and after the last one all of them do. -/
theorem waveCopy_keeps_data (hp : s.seqPhase = .wvCopy) (hm : waveCopy (shapeField s.cmdReg) s = .next t) :
    DataInvariant t := by
  obtain ⟨sel, hs, hd, hg, hdiv⟩ := h.sequencer.wave (.inr (.inl hp))
  have hidx := h.sequencer.copy_index hp
  obtain ⟨_, hwords, _⟩ := Params.words_of_legal h.registers.params_legal
  have hsel : (BitVec.ofNat 4 sel).toNat = sel := by
    rw [BitVec.toNat_ofNat]
    omega
  have hloaded : BitVec.ofNat 4 sel ≠ noShape := fun heq => by
    have : sel = 15 := by rw [← hsel, heq]; rfl
    omega
  have hholds := (h.memory.copied hp sel hd).putWord (h.memory.tables sel hs hg _ hidx)
  simp only [waveCopy, shapeField_of_decode_wave hd,
    if_neg (show ¬ (12 < sel ∨ s.params.words ≤ s.seqIdx.toNat) by omega)] at hm
  split at hm <;> cases hm
  · rename_i hlast
    refine h.data.store_active hidx (.inr (by omega)) (fun _ => hdiv) (fun _ => hloaded) (fun _ _ => ?_) nofun
    rw [hsel]
    rwa [show s.seqIdx.toNat + 1 = s.params.words by omega] at hholds
  · refine h.data.store_active hidx h.registers.shape_range h.registers.shape_has_div id
      (fun _ hnc => absurd hp hnc) (fun _ sel' hd' => ?_)
    obtain rfl : sel = sel' := by simpa [hd] using hd'
    rwa [BitVec.toNat_ofNat, Nat.mod_eq_of_lt (by omega)]

include h in
/-- `START` (R199): it succeeds only with a table loaded, since otherwise `E_NO_TABLE` is recorded. -/
theorem execStart_keeps_data (hp : s.seqPhase = .exec) (hm : execStart s = .next t) : DataInvariant t := by
  have hchecked := h.data.startChecks
  have hframe := s.startChecks_frame
  unfold execStart at hm
  split at hm
  · cases hm
    exact h.data.refuseCmd (by simp [hp]) _
  · rename_i hst
    split at hm <;> cases hm
    · exact hchecked.finish (by rw [hframe]; simp [hp])
    · rename_i hok
      have hloaded : s.shapeSel ≠ noShape := fun hs => hok (by
        simp [State.hasConfigErr, State.hasErr_startChecks, hs])
      have hrun : DataInvariant s.startChecks.startEngine :=
        hchecked.startEngine (by rw [hframe]; simpa using hst) (by rw [hframe]; exact hloaded)
      refine hrun.finish ?_
      rw [hframe]
      simp [State.startEngine, hp]

include h in
/-- Step 0 of every command. -/
theorem exec_keeps_data {i : Instr} (hp : s.seqPhase = .exec) (hd : decodeCmd s.cmdReg = .ok i)
    (hm : exec i s = .next t) : DataInvariant t := by
  have hnocopy : s.seqPhase ≠ .wvCopy := by simp [hp]
  cases i with
  | nop => cases hm; exact h.data.finish hnocopy
  | gen sel => exact execGen_keeps_data h hp hm
  | genall =>
    simp only [exec, execGenall, hp] at hm
    exact genallBegin_keeps_data h hp hm
  | setf imm => cases hm; exact (h.data.set_freq imm).finish hnocopy
  | fdelta dir mag => cases hm; exact (h.data.set_freq _).finish hnocopy
  | mdelta dir => cases hm; exact (h.data.step_mult dir).finish hnocopy
  | applydiv => exact execApplydiv_keeps_data h hp hm
  | quiesce => cases hm; exact h.data.quiesceBsu.finish hnocopy
  | resume => cases hm; exact h.data.resumeBsu.finish hnocopy
  | wave sel =>
    simp only [exec, execWave, hp] at hm
    exact waveBegin_keeps_data h hp hm
  | start => exact execStart_keeps_data h hp hm
  | rd a => exact absurd rfl ((decodeCmd_ne_bus hd).1 a)
  | wr a d => exact absurd rfl ((decodeCmd_ne_bus hd).2 a d)

include h in
theorem seqMove_keeps_data (hm : seqMove s = .next t) : DataInvariant t := by
  unfold seqMove at hm
  split at hm
  next => cases hm; exact h.data
  next hp =>
    split at hm
    next i hd => exact exec_keeps_data h hp hd hm
    next => cases hm; exact h.data.refuseCmd (by simp [hp]) _
  next hp =>
    simp only [exec, execGenall, hp] at hm
    exact genallStep_keeps_data h hp hm
  next hp =>
    simp only [exec, execWave, hp] at hm
    exact waveQuiesce_keeps_data h hp hm
  next hp =>
    simp only [exec, execWave, hp] at hm
    exact waveCopy_keeps_data h hp hm
  next hp =>
    simp only [exec, execWave, hp] at hm
    cases hm
    exact h.data.resumeBsu.finish (by simp [hp])

/-! ### The host's transactions -/

include h in
/-- A host transaction changes the flags and the outputs, or an idle sequencer accepts a command (R243, R244). -/
theorem hostMove_keeps_data {x : BusTxn} (hm : hostMove x s = .next t) : DataInvariant t := by
  rcases hostMove_eq x s with ⟨_, _, _, he⟩ | ⟨hb, _, he⟩ <;> cases he.symm.trans hm
  · exact h.data.of_registers { h.registers with } rfl
  · have hidle : s.seqPhase = .idle := h.sequencer.busy_iff.1 hb
    exact h.data.of_control (by simp [hidle]) nofun rfl

end Commands

/-! ### The Bit-Streaming Unit and the prescaler -/

/-- Taking the first `n + 1` bytes of a word is its byte 0, then `n` bytes of the shifted word. -/
theorem take_unpack4_succ (w : Word) {n : Nat} (hn : n ≤ 3) :
    (unpack4 w).take (n + 1) = w.extractLsb' 0 8 :: (unpack4 (w >>> 8)).take n := by
  simp only [unpack4, wordByte_shiftRight, List.take_succ_cons]
  interval_cases n <;> rfl

/-- The refill moves the head of the queue into the empty shift register (R172, R179). -/
theorem StreamOrdered.refill {s : State} (h : StreamOrdered s) : StreamOrdered s.refill := by
  unfold State.refill
  split
  next hc =>
    split
    · exact h
    · rename_i v rest hq
      simp only [StreamOrdered, hc, hq] at h
      simpa [StreamOrdered, bytesOf, unpack4] using h
  · exact h

/-- Presenting a byte moves it from the shift register to the output (R172, R179). -/
theorem StreamOrdered.present {s : State} (h : StreamOrdered s) (hpos : 1 ≤ s.osrCnt.toNat) (hle : s.osrCnt.toNat ≤ 4) :
    StreamOrdered s.present := by
  have hcnt : (s.osrCnt - 1#3).toNat + 1 = s.osrCnt.toNat := by
    simp only [BitVec.toNat_sub, BitVec.toNat_ofNat]
    omega
  unfold StreamOrdered at h ⊢
  rw [← hcnt, take_unpack4_succ s.osr (by omega)] at h
  simpa [State.present] using h

/-- An enabled BSU has 1 to 4 bytes in `osr` after the refill, which only shortens the queue (R172, R173). -/
theorem refill_bounds {s : State} (hen : s.bsuEnabled = true) (hcnt : s.osrCnt.toNat ≤ 3) :
    1 ≤ s.refill.osrCnt.toNat ∧ s.refill.osrCnt.toNat ≤ 4 ∧ s.refill.txq.length ≤ s.txq.length := by
  unfold State.refill
  split
  next hc =>
    split
    · rename_i hq
      simp [State.bsuEnabled, hc, hq] at hen
    · rename_i hq
      simp [hq]
  next hc =>
    have : s.osrCnt.toNat ≠ 0 := fun h0 => hc (BitVec.eq_of_toNat_eq h0)
    omega

namespace DataInvariant

variable {s : State}

/-- The BSU ticks only after `START`, when the engine's part no longer reads its registers (R178, R264). -/
theorem bsuMove (h : DataInvariant s) : DataInvariant s.bsuMove := by
  obtain ⟨hr, he, hm, hstream⟩ := h
  cases hen : s.bsuEnabled with
  | false =>
    rw [State.bsuMove, hen]
    exact ⟨hr, he, hm, hstream⟩
  | true =>
    have hbsu : s.bsuEn = true := by
      simp only [State.bsuEnabled, Bool.and_eq_true] at hen
      exact hen.1
    have hst := hr.bsu_started hbsu
    obtain ⟨hpos, hle, hlen⟩ := refill_bounds hen hr.osrCnt_range
    have htick : s.bsuMove = s.refill.present := by rw [State.bsuMove, hen]; rfl
    have hcnt : s.bsuMove.osrCnt.toNat ≤ 3 := by
      simp only [htick, State.present_osrCnt, BitVec.toNat_sub, BitVec.toNat_ofNat]
      omega
    have htxq : s.bsuMove.txq.length ≤ s.params.qdepth := by
      rw [htick, State.present_txq]
      exact hlen.trans hr.txq_range
    refine ⟨?_, ?_, ?_, by rw [htick]; exact hstream.refill.present hpos hle⟩
    · rw [State.bsuMove_frame]
      exact { hr with osrCnt_range := hcnt, txq_range := htxq }
    · rw [State.bsuMove_frame]
      exact ⟨fun _ => { he.1 hst with }, fun hs => by simp [hst] at hs⟩
    · exact hm.of_unread (by rw [State.bsuMove_frame])

theorem clockEdge (h : DataInvariant s) : DataInvariant s.clockEdge := by
  unfold State.clockEdge
  split
  · split
    · exact bsuMove (h.of_registers { h.registers with } rfl)
    · exact h.of_registers { h.registers with } rfl
  · exact h

end DataInvariant

/-! ### The channels (spec/43_transfer_engine.md R200 to R206) -/

/-- Channel A's word: the load and the store of its transfer push word `W - count` of `ACTIVE` (R197, R206). -/
theorem EngineRunning.moveWord_a {s : State} (h : EngineRunning s) (ha : s.aRunning) :
    s.moveWord .a = s.pushTxq (s.wordAt (activeBase + 4 * (s.params.words - s.chA.transCount.toNat))) := by
  obtain ⟨_, _, hcount, _⟩ := ha
  have hle := h.a_count
  rw [State.moveWord, State.chan_a, State.dmaRead_active h.a_read (by omega)]
  exact State.dmaWrite_txq h.a_write

/-- The control words of a running engine, field by field (R98). -/
theorem EngineRunning.ctrl_fields {s : State} (h : EngineRunning s) :
    s.chA.ctrl = { en := true, incrRead := true, incrWrite := false, pace := true, chainEn := true,
                   busy := s.chA.ctrl.busy } ∧
      s.chB.ctrl = { en := true, incrRead := false, incrWrite := false, pace := false, chainEn := true,
                     busy := s.chB.ctrl.busy } :=
  ⟨h.a_ctrl.trans (ctrlA_fields _), h.b_ctrl.trans (ctrlB_fields _)⟩

/-- Channel A's transfer (R192): a word is pushed, the address and the count go on, and the last word ends the lap. -/
theorem EngineRunning.chanMove_a {s : State} (h : EngineRunning s) (ha : s.aRunning)
    (hroom : s.txq.length < s.params.qdepth) {v : Word}
    (hv : v = s.wordAt (activeBase + 4 * (s.params.words - s.chA.transCount.toNat))) :
    (s.chA.transCount ≠ 1#32 → s.chanMove .a = { s with
      txq := s.txq ++ [v], pushTrace := s.pushTrace ++ [v],
      chA := { s.chA with readAddr := s.chA.readAddr + 4#32, transCount := s.chA.transCount - 1#32 } }) ∧
    (s.chA.transCount = 1#32 → s.chanMove .a = { s with
      txq := s.txq ++ [v], pushTrace := s.pushTrace ++ [v],
      chA := { s.chA with readAddr := s.chA.readAddr + 4#32, transCount := 0#32,
                          ctrl := { s.chA.ctrl with busy := false } },
      chB := { s.chB with transCount := s.chB.countReload,
                          ctrl := { s.chB.ctrl with en := true, busy := true } } }) := by
  obtain ⟨hctrl, _⟩ := h.ctrl_fields
  have hmove := h.moveWord_a ha
  obtain ⟨hbusy, _, hcount, _⟩ := ha
  have hne : s.chA.transCount ≠ 0#32 := fun h0 => by simp [h0] at hcount
  rw [hbusy] at hctrl
  have hready : s.chanReady .a = true := by
    simp [State.chanReady, State.paceOk, hctrl, hne, hroom]
  rw [State.chanMove_ready hready, State.chanStep, hmove, ← hv, State.pushTxq_room hroom]
  constructor
  · intro h1
    have hne' : s.chA.transCount - 1#32 ≠ 0#32 := fun h0 => h1 (by simpa [BitVec.sub_eq_iff_eq_add] using h0)
    simp [Channel.advance, hctrl, State.setChan, hne']
  · intro h1
    simp [Channel.advance, hctrl, State.setChan, h1, State.completeRun, State.trigger, State.chan]

/-- Channel B's transfer (R200, R201): Channel A's address is restored, and Channel A triggered. -/
theorem EngineRunning.chanMove_b {s : State} (h : EngineRunning s) (hb : s.bRunning) :
    s.chanMove .b = { s with
      chA := { s.chA with readAddr := BitVec.ofNat 32 activeBase, transCount := s.chA.countReload,
                          ctrl := { s.chA.ctrl with en := true, busy := true } },
      chB := { s.chB with transCount := 0#32, ctrl := { s.chB.ctrl with busy := false } } } := by
  obtain ⟨_, hctrl⟩ := h.ctrl_fields
  obtain ⟨_, hbusy, _, hcount⟩ := hb
  rw [hbusy] at hctrl
  have hready : s.chanReady .b = true := by
    simp [State.chanReady, State.paceOk, hctrl, hcount]
  have hmove : s.moveWord .b = { s with chA := { s.chA with readAddr := BitVec.ofNat 32 activeBase } } := by
    rw [State.moveWord, State.chan_b, State.dmaRead_lit h.b_read, h.literal]
    exact State.dmaWrite_aReadAddr h.b_write
  rw [State.chanMove_ready hready, State.chanStep, hmove]
  simp [Channel.advance, hctrl, hcount, State.setChan, State.completeRun, State.trigger, State.chan]

/-- A push extends the pushed bytes and the queue alike (R179). -/
theorem StreamOrdered.push {s t : State} (h : StreamOrdered s) (v : Word) (hq : t.txq = s.txq ++ [v])
    (hp : t.pushTrace = s.pushTrace ++ [v]) (ho : t.osr = s.osr) (hc : t.osrCnt = s.osrCnt)
    (hout : t.outTrace = s.outTrace) : StreamOrdered t := by
  unfold StreamOrdered at h ⊢
  rw [hq, hp, ho, hc, hout]
  simp only [bytesOf, List.flatMap_append] at h ⊢
  rw [h, List.append_assoc]

namespace DataInvariant

variable {s : State}

/-- Channel A's move in its run: it waits for room, or pushes the next word (R202, R206). -/
theorem chanMove_a (h : DataInvariant s) (hst : s.started = true) (ha : s.aRunning) :
    DataInvariant (s.chanMove .a) := by
  obtain ⟨hr, he, hm, hstream⟩ := h
  have hrun := he.1 hst
  obtain ⟨hctrl, _⟩ := hrun.ctrl_fields
  obtain ⟨hbusyA, hbusyB, hpos, hcountB⟩ := id ha
  by_cases hroom : s.txq.length < s.params.qdepth
  · obtain ⟨hpos_w, hwords, _⟩ := Params.words_of_legal hr.params_legal
    have hle := hrun.a_count
    have hcount : (s.chA.transCount - 1#32).toNat + 1 = s.chA.transCount.toNat := by
      simp only [BitVec.toNat_sub, BitVec.toNat_ofNat]
      omega
    have hread : (s.chA.readAddr + 4#32).toNat =
        activeBase + 4 * (s.params.words - (s.chA.transCount - 1#32).toNat) := by
      rw [BitVec.toNat_add, hrun.a_read]
      simp only [BitVec.toNat_ofNat, activeBase]
      omega
    have hlap : (s.pushTrace.length + 1) % s.params.words =
        (s.params.words - (s.chA.transCount - 1#32).toNat) % s.params.words := by
      rw [show s.params.words - (s.chA.transCount - 1#32).toNat = s.params.words - s.chA.transCount.toNat + 1 by omega]
      exact Nat.ModEq.add_right 1 hrun.lap_position
    obtain ⟨hword, hlast⟩ := hrun.chanMove_a ha hroom rfl
    by_cases h1 : s.chA.transCount = 1#32
    · rw [h1] at hcount hread hlap
      rw [hlast h1]
      refine ⟨{ hr with txq_range := by simpa using hroom }, ⟨fun _ => ?_, fun hs => by simp [hst] at hs⟩,
        hm.of_unread rfl, hstream.push _ rfl rfl rfl rfl rfl⟩
      exact { hrun with
        a_ctrl := congrArg (fun c : Ctrl => { c with busy := false }) hrun.a_ctrl
        a_count := Nat.zero_le _
        a_read := hread
        b_ctrl := by rw [hrun.ctrl_fields.2]; rfl
        one_busy := .inr ⟨rfl, rfl, rfl, hrun.b_reload⟩
        lap_position := by simpa using hlap }
    · have hgt : 1 ≤ (s.chA.transCount - 1#32).toNat := by
        have : s.chA.transCount.toNat ≠ 1 := fun hn => h1 (BitVec.eq_of_toNat_eq hn)
        omega
      rw [hword h1]
      refine ⟨{ hr with txq_range := by simpa using hroom }, ⟨fun _ => ?_, fun hs => by simp [hst] at hs⟩,
        hm.of_unread rfl, hstream.push _ rfl rfl rfl rfl rfl⟩
      exact { hrun with
        a_count := by show (s.chA.transCount - 1#32).toNat ≤ s.params.words; omega
        a_read := hread
        one_busy := .inl ⟨hbusyA, hbusyB, hgt, hcountB⟩
        lap_position := by simpa using hlap }
  · have hne : s.chA.transCount ≠ 0#32 := fun h0 => by simp [h0] at hpos
    rw [State.chanMove_full (x := .a) (by rw [State.chan_a, hctrl]) hne (by omega)]
    exact ⟨hr, he, hm, hstream⟩

/-- Channel B's move in its run: Channel A begins its next lap (R200, R201). -/
theorem chanMove_b (h : DataInvariant s) (hst : s.started = true) (hb : s.bRunning) :
    DataInvariant (s.chanMove .b) := by
  obtain ⟨hr, he, hm, hstream⟩ := h
  have hrun := he.1 hst
  obtain ⟨hpos, hwords, _⟩ := Params.words_of_legal hr.params_legal
  have hcount : s.chA.countReload.toNat = s.params.words := by
    rw [hrun.a_reload, BitVec.toNat_ofNat]
    omega
  obtain ⟨_, _, hcountA, _⟩ := id hb
  have hlap := hrun.lap_position
  rw [hcountA] at hlap
  rw [hrun.chanMove_b hb]
  refine ⟨{ hr with }, ⟨fun _ => ?_, fun hs => by simp [hst] at hs⟩, hm.of_unread rfl, hstream⟩
  exact { hrun with
    a_ctrl := by rw [hrun.ctrl_fields.1]; rfl
    a_count := hcount.le
    a_read := by
      show (BitVec.ofNat 32 activeBase).toNat = activeBase + 4 * (s.params.words - s.chA.countReload.toNat)
      rw [hcount, Nat.sub_self]
      rfl
    b_ctrl := congrArg (fun c : Ctrl => { c with busy := false }) hrun.b_ctrl
    one_busy := .inl ⟨rfl, rfl, hpos.trans hcount.ge, rfl⟩
    lap_position := by
      show _ = (s.params.words - s.chA.countReload.toNat) % s.params.words
      rw [hcount]
      simpa using hlap }

/-- A channel's move: only the channel in its run has one, and before `START` neither (R202, R280). -/
theorem chanMove (h : DataInvariant s) (x : Chan) : DataInvariant (s.chanMove x) := by
  have hturns := h.engine.channelsTakeTurns
  cases hbusy : (s.chan x).ctrl.busy with
  | false => rwa [State.chanMove_dormant hbusy]
  | true =>
    cases x with
    | a =>
      have hst := hturns.started (.inl hbusy)
      rcases (h.engine.1 hst).one_busy with ha | ⟨hdormant, _⟩
      · exact h.chanMove_a hst ha
      · exact absurd hbusy (by simp [hdormant])
    | b =>
      have hst := hturns.started (.inr hbusy)
      rcases (h.engine.1 hst).one_busy with ⟨_, hdormant, _⟩ | hb
      · exact absurd hbusy (by simp [hdormant])
      · exact h.chanMove_b hst hb

end DataInvariant

/-! ### Every move -/

/-- After a reset edge the data parts hold as they do at construction (R45, R290). -/
theorem afterReset_data {s : State} (hl : s.params.legal = true) : DataInvariant s.afterReset where
  registers := { ofParams_registersInRange hl with }
  engine := ⟨nofun, fun _ => ⟨rfl, rfl, rfl, rfl, rfl⟩⟩
  memory := {
    canonical := List.Pairwise.nil
    confined := nofun
    tables := fun sel _ hg => absurd hg (by simp [State.generated, State.afterReset, State.ofParams])
    active := fun hs => absurd rfl hs
    copied := nofun }
  stream := rfl

theorem seqClocked_keeps_data {s t : State} (h : BlockInvariant s) (hm : seqClocked s = .next t) :
    DataInvariant t := by
  have hwait (k : Nat) : DataInvariant { s with genWait := k } := h.data.of_registers { h.registers with } rfl
  unfold seqClocked at hm
  split at hm
  · cases hm
    exact hwait _
  · exact seqMove_keeps_data ((hwait 0).block { h.sequencer with }) hm

theorem cycleMove_keeps_data {x : Option BusTxn} {s t : State} (h : BlockInvariant s)
    (hm : cycleMove x s = .next t) : DataInvariant t := by
  obtain ⟨s1, s2, h1, _, hidle, hturn, rfl⟩ := cycleMove_cases hm
  have hhost : BlockInvariant s1 := by
    cases x with
    | none => cases h1; exact h
    | some txn => exact (hostMove_keeps_data h h1).block (hostMove_keeps_sequencer h.sequencer h1)
  have hfront : DataInvariant s2 := by
    by_cases hp : s.seqPhase = .idle
    · rw [hidle hp]
      exact hhost.data
    · exact seqClocked_keeps_data hhost (hturn hp)
  exact (hfront.chanMove _).clockEdge

theorem runMove_keeps_blockInvariant {m : Move} {s t : State} (h : BlockInvariant s) (hm : runMove m s = .next t) :
    BlockInvariant t := by
  refine DataInvariant.block ?_ (runMove_keeps_sequencer h.registers.params_legal h.sequencer hm)
  cases m with
  | host x => exact hostMove_keeps_data h hm
  | seq => exact seqMove_keeps_data h hm
  | cha => cases hm; exact h.data.chanMove .a
  | chb => cases hm; exact h.data.chanMove .b
  | bsu => cases hm; exact h.data.bsuMove
  | clock => cases hm; exact h.data.clockEdge
  | cycle x => exact cycleMove_keeps_data h hm
  | rst => cases hm; exact afterReset_data h.registers.params_legal

/-- Settles O43: what precedes the move is read by no part of the invariant, and every move keeps each part. -/
theorem everyStepKeepsBlockInvariant : Obligations.EveryStepKeepsBlockInvariant := by
  intro s t h hstep
  have hready : BlockInvariant s.nextMove.2.busIdle := by
    rw [nextMove_busIdle_eq]
    exact DataInvariant.block (h.data.of_registers { h.registers with } rfl) { h.sequencer with }
  exact runMove_keeps_blockInvariant hready hstep

end Sys2Proof.Machine

/-! ## The control word and the packed table word (spec/30_encoding.md R97 to R99, spec/20_memory.md R63) -/

namespace Sys2Proof.Machine

/-- The number of a concatenation: the high part counts from where the low part ends. -/
theorem toNat_append_eq {m n : Nat} (a : BitVec m) (b : BitVec n) : (a ++ b).toNat = 2 ^ n * a.toNat + b.toNat := by
  rw [BitVec.toNat_append, ← Nat.shiftLeft_add_eq_or_of_lt b.isLt, Nat.shiftLeft_eq, Nat.mul_comm]

/-- The five fields at their bits 0 to 4 (R97). -/
theorem encodeCtrl_eq_sum (en ir iw pc ch : Bool) : encodeCtrl en ir iw pc ch =
    BitVec.ofNat 32 (en.toNat + 2 * ir.toNat + 4 * iw.toNat + 8 * pc.toNat + 16 * ch.toNat) := by
  revert en ir iw pc ch
  decide

/-- `decode_ctrl` inverts `encode_ctrl` (R97). -/
theorem decodeCtrl_encodeCtrl (en ir iw pc ch : Bool) : decodeCtrl (encodeCtrl en ir iw pc ch) =
    { en := en, incrRead := ir, incrWrite := iw, pace := pc, chainEn := ch, busy := false } := by
  revert en ir iw pc ch
  decide

/-- `decode_ctrl` ignores bits 31:5 (R97). -/
theorem decodeCtrl_or_shift (c w : Word) : decodeCtrl (c ||| (w <<< 5)) = decodeCtrl c := by
  simp [decodeCtrl]

/-- A packed word is its four bytes in base 256, lowest first (R63, R99). -/
theorem pack4_toNat (b0 b1 b2 b3 : Byte) :
    (pack4 b0 b1 b2 b3).toNat = b0.toNat + 2 ^ 8 * b1.toNat + 2 ^ 16 * b2.toNat + 2 ^ 24 * b3.toNat := by
  simp only [pack4, toNat_append_eq]
  omega

/-- `unpack4` inverts `pack4` (R99). -/
theorem unpack4_pack4 (b0 b1 b2 b3 : Byte) : unpack4 (pack4 b0 b1 b2 b3) = [b0, b1, b2, b3] := by
  simp [unpack4]

/-- Settles O5: layout and inverse of the control word, the two control words of `START`, layout and inverses of the
packed word. -/
theorem controlAndPackedWordLayout : Obligations.ControlAndPackedWordLayout := by
  refine ⟨encodeCtrl_eq_sum, fun en ir iw pc ch w => ?_, fun p => ?_, ?_, ?_, pack4_toNat, unpack4_pack4,
    pack4_wordByte⟩
  · rw [decodeCtrl_or_shift, decodeCtrl_encodeCtrl]
  · rw [channelA_ctrl]
    decide
  · rw [channelB_ctrl]
    decide
  · rw [channelB_ctrl]
    decide

/-! ## Reset (spec/10_state.md R45, spec/70_reset_and_hazards.md R290) -/

/-- Every descriptor register is 0 after a reset edge (R45). -/
theorem afterReset_chan (s : State) (x : Chan) : s.afterReset.chan x = Channel.reset := by cases x <;> rfl

/-- Settles O40: the next state is `State.afterReset`, whose registers are read off `State.ofParams`. -/
theorem resetGivesStatedValues : Obligations.ResetGivesStatedValues := by
  intro s hl
  refine ⟨s.afterReset, rfl, rfl, rfl, rfl, rfl, rfl, rfl, rfl, rfl, rfl, freq_ofParams hl, rfl, rfl, rfl, rfl,
    fun x => ?_, rfl, rfl, rfl, rfl, rfl, rfl, rfl, rfl, fun a => rfl⟩
  rw [afterReset_chan]
  exact channelReset_registers

/-! ## What the host can change (spec/45_host_interface.md R241 to R244) -/

/-- A read presented by the host leaves the command registers alone. -/
theorem hostMove_read_eq {x : BusTxn} (hx : x.we = false) (s : State) : ∃ rdata busErr err, hostMove x s =
    .next { s with busRdata := rdata, busAck := true, busErr := busErr, err := err } := by
  rw [hostMove, decodeBus, hx]
  exact execRd_eq x.addr s

/-- Settles O31: by `hostMove_eq` a transaction sets flags and outputs, or a write has its command accepted. -/
theorem hostCannotMutateBlock : Obligations.HostCannotMutateBlock := by
  intro x s t hm
  refine ⟨?_, fun hx => ?_⟩
  · rcases hostMove_eq x s with ⟨_, _, _, he⟩ | ⟨_, _, he⟩ <;> cases he.symm.trans hm <;> rfl
  · obtain ⟨_, _, _, he⟩ := hostMove_read_eq hx s
    cases he.symm.trans hm
    exact ⟨rfl, rfl, rfl⟩

/-! ## Reads of the registers (spec/45_host_interface.md R242, spec/10_state.md R23 to R34) -/

/-- A read of a host-readable location returns its content and changes only the bus outputs (R242). -/
theorem exec_rd_content {addr : BitVec 16} {s : State} {l : Loc} (h : locate s.params addr.toNat = l)
    (hl : l.hostReadable = true) : exec (.rd addr) s = .next { s with
      busRdata := s.content addr.toNat l, busAck := true, busErr := false } := by
  simp only [exec, execRd, h, if_pos hl]
  rfl

/-- A read of a control and status register returns the word that shows it (R23). -/
theorem exec_rd_csr {addr : BitVec 16} {s : State} {r : Csr} {v : Word} (h : locate s.params addr.toNat = .csr r)
    (hv : s.csrWord r = v) : exec (.rd addr) s = .next { s with busRdata := v, busAck := true, busErr := false } := by
  subst hv
  exact exec_rd_content h rfl

/-- The number `STATUS` shows (R25). -/
theorem statusWord_eq (s : State) : s.statusWord = BitVec.ofNat 32
    (s.cmdBusy.toNat + 2 * s.started.toNat + 4 * s.bsuEn.toNat + 8 * s.divValid.toNat + 256 * s.err.toNat) := by
  have herr := s.err.isLt
  have hsum : s.statusWord.toNat = s.cmdBusy.toNat + 2 * s.started.toNat + 4 * s.bsuEn.toNat + 8 * s.divValid.toNat
      + 256 * s.err.toNat := by
    simp only [State.statusWord, toNat_append_eq, BitVec.toNat_ofBool, BitVec.toNat_ofNat]
    omega
  rw [← hsum, BitVec.ofNat_toNat, BitVec.setWidth_eq]

/-- The number `QSTAT` shows, for a queue whose length fits `QLEVEL` (R32). -/
theorem qstatWord_eq {s : State} (h : s.txq.length < 2 ^ 5) : s.qstatWord = BitVec.ofNat 32
    (s.txq.length + 2 ^ 8 * s.osrCnt.toNat + 2 ^ 16 * s.pins.toNat) := by
  have hsum : s.qstatWord.toNat = s.txq.length + 2 ^ 8 * s.osrCnt.toNat + 2 ^ 16 * s.pins.toNat := by
    simp only [State.qstatWord, toNat_append_eq, BitVec.toNat_ofNat]
    omega
  rw [← hsum, BitVec.ofNat_toNat, BitVec.setWidth_eq]

/-- Settles O27: each address locates its register, and each register shows its fields. -/
theorem rdReturnsRegisters : Obligations.RdReturnsRegisters := by
  refine ⟨fun s _ _ hq a v hmem => ?_, fun s a v hmem => ?_⟩
  · simp only [List.mem_cons, Prod.mk.injEq, List.not_mem_nil, or_false] at hmem
    rcases hmem with ⟨rfl, rfl⟩ | ⟨rfl, rfl⟩ | ⟨rfl, rfl⟩ | ⟨rfl, rfl⟩ | ⟨rfl, rfl⟩ | ⟨rfl, rfl⟩ | ⟨rfl, rfl⟩ |
      ⟨rfl, rfl⟩ | ⟨rfl, rfl⟩ | ⟨rfl, rfl⟩ | ⟨rfl, rfl⟩
    · exact exec_rd_csr (r := .cmd) rfl (by simp [State.csrWord])
    · exact exec_rd_csr (r := .status) rfl (statusWord_eq s)
    · exact exec_rd_csr (r := .freq) rfl (BitVec.ofNat_toNat 32 _).symm
    · exact exec_rd_csr (r := .mult) rfl (BitVec.ofNat_toNat 32 _).symm
    · exact exec_rd_csr (r := .div) rfl (BitVec.ofNat_toNat 32 _).symm
    · exact exec_rd_csr (r := .shape) rfl (BitVec.ofNat_toNat 32 _).symm
    · exact exec_rd_csr (r := .nsamp) rfl rfl
    · exact exec_rd_csr (r := .genstat) rfl (BitVec.ofNat_toNat 32 _).symm
    · exact exec_rd_csr (r := .qstat) rfl (qstatWord_eq hq)
    · exact exec_rd_csr (r := .clkhz) rfl rfl
    · exact exec_rd_csr (r := .osr) rfl (by simp [State.csrWord])
  · simp only [List.mem_cons, Prod.mk.injEq, List.not_mem_nil, or_false] at hmem
    rcases hmem with ⟨rfl, rfl⟩ | ⟨rfl, rfl⟩ | ⟨rfl, rfl⟩ | ⟨rfl, rfl⟩ | ⟨rfl, rfl⟩ | ⟨rfl, rfl⟩ | ⟨rfl, rfl⟩ |
      ⟨rfl, rfl⟩ | ⟨rfl, rfl⟩ | ⟨rfl, rfl⟩ | ⟨rfl, rfl⟩
    · exact exec_rd_content (l := .desc .a .readAddr) rfl rfl
    · exact exec_rd_content (l := .desc .a .writeAddr) rfl rfl
    · exact exec_rd_content (l := .desc .a .transCount) rfl rfl
    · exact exec_rd_content (l := .desc .a .ctrl) rfl rfl
    · exact exec_rd_content (l := .desc .a .countReload) rfl rfl
    · exact exec_rd_content (l := .desc .b .readAddr) rfl rfl
    · exact exec_rd_content (l := .desc .b .writeAddr) rfl rfl
    · exact exec_rd_content (l := .desc .b .transCount) rfl rfl
    · exact exec_rd_content (l := .desc .b .ctrl) rfl rfl
    · exact exec_rd_content (l := .desc .b .countReload) rfl rfl
    · exact exec_rd_content (l := .txq) rfl rfl

/-! ## What a step stores (spec/10_state.md R38, spec/44_swap_arbiter.md R225) -/

/-- The stores an instruction can make in one step: none, a table into its slot (R130), the literal (R199), or, for
`WAVE` alone, one word of `ACTIVE` (R222). -/
inductive MemoryEffect (s t : State) : Instr → Prop
  | same {i : Instr} (hm : t.mem = s.mem) : MemoryEffect s t i
  | table {i : Instr} (sel : Nat) (hs : sel ≤ 12)
      (hm : t.mem = (s.putWords (shapeBase sel) (packedTable s.params sel)).mem) : MemoryEffect s t i
  | literal {i : Instr} (v : Word) (hm : t.mem = (s.putWord litAddr v).mem) : MemoryEffect s t i
  | active {sel : Nat} (a : Nat) (v : Word) (hm : t.mem = (s.putWord a v).mem) : MemoryEffect s t (.wave sel)

/-- The stores of `GEN` and of a step of `GENALL` (R131, R132). -/
theorem execGen_memoryEffect {sel : Nat} {s t : State} (h : execGen sel s = .next t) : MemoryEffect s t (.gen sel) := by
  unfold execGen at h
  split at h <;> cases h
  · exact .same rfl
  · rename_i hok
    exact .table sel (by omega) rfl

theorem execGenall_memoryEffect {s t : State} (h : execGenall s = .next t) : MemoryEffect s t .genall := by
  simp only [execGenall, genallBegin, genallStep] at h
  split at h
  · split at h
    · cases h
    · split at h <;> cases h <;> exact .table s.seqIdx.toNat (by omega) rfl
  all_goals split at h <;> cases h <;> exact .same rfl

theorem applyDivisor_mem {s t : State} (h : s.applyDivisor = some t) : t.mem = s.mem := by
  rw [State.applyDivisor_frame h]

theorem execApplydiv_memoryEffect {s t : State} (h : execApplydiv s = .next t) : MemoryEffect s t .applydiv := by
  unfold execApplydiv at h
  split at h <;> cases h
  · rename_i hd
    have hmem := applyDivisor_mem hd
    exact .same hmem
  · exact .same rfl

theorem waveBegin_mem {sel : Nat} {s t : State} (h : waveBegin sel s = .next t) : t.mem = s.mem := by
  unfold waveBegin at h
  split at h
  · cases h; rfl
  · split at h <;> cases h
    · rename_i hd
      have hmem := applyDivisor_mem hd
      exact hmem
    · rfl

theorem execWave_memoryEffect {sel : Nat} {s t : State} (h : execWave sel s = .next t) :
    MemoryEffect s t (.wave sel) := by
  unfold execWave at h
  split at h
  · cases h; exact .same rfl
  · simp only [waveCopy] at h
    split at h
    · cases h
    · split at h <;> cases h <;> exact .active _ _ rfl
  · cases h; exact .same rfl
  all_goals exact .same (waveBegin_mem h)

theorem execStart_memoryEffect {s t : State} (h : execStart s = .next t) : MemoryEffect s t .start := by
  have hmem : s.startChecks.mem = s.mem := by rw [State.startChecks_frame]
  unfold execStart at h
  split at h
  · cases h; exact .same rfl
  · split at h <;> cases h
    · exact .same hmem
    · refine .literal (BitVec.ofNat 32 activeBase) ?_
      rw [State.putWord_mem, ← hmem]
      rfl

theorem hostMove_mem {x : BusTxn} {s t : State} (h : hostMove x s = .next t) : t.mem = s.mem := by
  rcases hostMove_eq x s with ⟨_, _, _, he⟩ | ⟨_, _, he⟩ <;> cases he.symm.trans h <;> rfl

/-- The stores of every instruction. -/
theorem exec_memoryEffect {i : Instr} {s t : State} (h : exec i s = .next t) : MemoryEffect s t i := by
  cases i with
  | nop | setf | fdelta | mdelta | quiesce | resume => cases h; exact .same rfl
  | gen sel => exact execGen_memoryEffect h
  | genall => exact execGenall_memoryEffect h
  | applydiv => exact execApplydiv_memoryEffect h
  | wave sel => exact execWave_memoryEffect h
  | start => exact execStart_memoryEffect h
  | rd addr => exact .same (hostMove_mem (x := ⟨false, addr, 0#32⟩) h)
  | wr addr data => exact .same (hostMove_mem (x := ⟨true, addr, data⟩) h)

/-! ### Memory stays canonical -/

theorem MemoryEffect.keeps_wf {i : Instr} {s t : State} (h : MemoryEffect s t i) (hw : Memory.wf s.mem) :
    Memory.wf t.mem := by
  cases h with
  | same hm => rwa [hm]
  | table sel _ hm => rw [hm]; exact Memory.insertWords_wf hw _ _
  | literal v hm => rw [hm]; exact Memory.insertWord_wf hw _ _
  | active a v hm => rw [hm]; exact Memory.insertWord_wf hw _ _

@[simp] theorem State.chanMove_mem (s : State) (x : Chan) : (s.chanMove x).mem = s.mem := by
  obtain ⟨_, _, _, _, _, h⟩ := s.chanMove_frame x
  rw [h]

@[simp] theorem State.chanMove_resets (s : State) (x : Chan) : (s.chanMove x).resets = s.resets := by
  obtain ⟨_, _, _, _, _, h⟩ := s.chanMove_frame x
  rw [h]

@[simp] theorem State.bsuMove_mem (s : State) : s.bsuMove.mem = s.mem := by rw [State.bsuMove_frame]
@[simp] theorem State.bsuMove_resets (s : State) : s.bsuMove.resets = s.resets := by rw [State.bsuMove_frame]
@[simp] theorem State.clockEdge_mem (s : State) : s.clockEdge.mem = s.mem := by rw [State.clockEdge_frame]
@[simp] theorem State.clockEdge_resets (s : State) : s.clockEdge.resets = s.resets := by rw [State.clockEdge_frame]

theorem seqMove_keeps_wf {s t : State} (hw : Memory.wf s.mem) (h : seqMove s = .next t) : Memory.wf t.mem := by
  unfold seqMove at h
  split at h
  · cases h; exact hw
  · split at h
    · exact (exec_memoryEffect h).keeps_wf hw
    · cases h; exact hw
  all_goals exact (exec_memoryEffect h).keeps_wf hw

theorem cycleFront_keeps_wf {x : Option BusTxn} {s t : State} (hw : Memory.wf s.mem) (h : cycleFront x s = .next t) :
    Memory.wf t.mem := by
  unfold cycleFront at h
  split at h
  · rename_i s1 h1
    have hw1 : Memory.wf s1.mem := by
      cases x with
      | none => cases h1; exact hw
      | some txn => rwa [hostMove_mem h1]
    split at h
    · cases h; exact hw1
    · unfold seqClocked at h
      split at h
      · cases h; exact hw1
      · exact seqMove_keeps_wf (s := { s1 with genWait := 0 }) hw1 h
  · cases h
  · cases h

/-- Settles O45: every store inserts into the ordered list, a reset empties it, and no other operation writes it. -/
theorem stepsKeepMemoryCanonical : Obligations.StepsKeepMemoryCanonical := by
  intro s t hw hstep
  have hready : Memory.wf s.nextMove.2.busIdle.mem := by rwa [nextMove_busIdle_eq]
  unfold step at hstep
  generalize s.nextMove.1 = m, s.nextMove.2.busIdle = u at hready hstep
  cases m with
  | host x => rwa [hostMove_mem hstep]
  | seq => exact seqMove_keeps_wf hready hstep
  | cha | chb | bsu | clock => cases hstep; simpa using hready
  | cycle x =>
    obtain ⟨_, s2, _, h2, _, _, rfl⟩ := cycleMove_cases hstep
    simpa [State.dmaMove] using cycleFront_keeps_wf hready h2
  | rst => cases hstep; exact List.Pairwise.nil

/-! ### Only `WAVE` stores to `ACTIVE` -/

/-- The slots and the literal lie below `ACTIVE` (R60, R61), so a store to them leaves its bytes alone. -/
theorem MemoryEffect.byteAt_active {i : Instr} {s t : State} (h : MemoryEffect s t i) (hi : ∀ sel, i ≠ .wave sel)
    (hl : s.params.legal = true) (hres : t.resets = s.resets) {a : Nat} (ha : activeBase ≤ a) :
    t.byteAt a = s.byteAt a := by
  have hbase : activeBase = 0x8000 := rfl
  cases h with
  | same hm => exact State.byteAt_congr hm hres a
  | table sel hs hm =>
    obtain ⟨_, hw, _⟩ := Params.words_of_legal hl
    have hslot := shapeBase_bounds hs
    rw [State.byteAt_congr hm hres, State.byteAt_putWords_outside _ _ _ _ (by rw [packedTable_length]; omega)]
  | literal v hm =>
    have hlit : litAddr = 0x0300 := rfl
    rw [State.byteAt_congr hm hres, State.byteAt_putWord_outside _ _ _ _ (by omega)]
  | active => exact absurd rfl (hi _)

/-- Settles O48: by `exec_memoryEffect` the other instructions store below `ACTIVE`, and the frames of the channels and
of the BSU name no memory. -/
theorem onlyWaveWritesActive : Obligations.OnlyWaveWritesActive := by
  intro s t hl
  refine ⟨fun i hi hm a ha _ => ?_, fun m hmove hm => ?_⟩
  · exact (exec_memoryEffect hm).byteAt_active hi hl (exec_frame hm).resets ha
  · rcases hmove with rfl | rfl | rfl | rfl <;> cases hm <;> simp

end Sys2Proof.Machine

/-! ## The stream of a started block that runs by itself (spec/43_transfer_engine.md R206, spec/44_swap_arbiter.md R228)

`StreamsTable` is what every autonomous move keeps; the bytes presented are then read off the words pushed, because the
output is the beginning of the pushed bytes (R179). -/

namespace Sys2Proof.Machine

/-! ### The bytes of a word sequence -/

theorem bytesOf_cons (w : Word) (ws : List Word) : bytesOf (w :: ws) = unpack4 w ++ bytesOf ws := rfl

@[simp] theorem unpack4_length (w : Word) : (unpack4 w).length = 4 := rfl

/-- Every word is four bytes. -/
theorem bytesOf_length (ws : List Word) : (bytesOf ws).length = 4 * ws.length := by
  induction ws with
  | nil => rfl
  | cons w ws ih =>
    rw [bytesOf_cons, List.length_append, ih, unpack4_length, List.length_cons]
    omega

theorem unpack4_getElem? (w : Word) {i : Nat} (hi : i < 4) : (unpack4 w)[i]? = some (wordByte w i) := by
  interval_cases i <;> rfl

/-- Byte `j` of a sequence is byte `j mod 4` of its word `j div 4`. -/
theorem bytesOf_getElem? {ws : List Word} {j : Nat} {w : Word} (h : ws[j / 4]? = some w) :
    (bytesOf ws)[j]? = some (wordByte w (j % 4)) := by
  induction ws generalizing j with
  | nil => simp at h
  | cons v vs ih =>
    rw [bytesOf_cons]
    by_cases hj : j < 4
    · obtain rfl : v = w := by simpa [Nat.div_eq_of_lt hj] using h
      rw [List.getElem?_append_left (by simpa using hj), Nat.mod_eq_of_lt hj, unpack4_getElem? v hj]
    · have hdiv : j / 4 = (j - 4) / 4 + 1 := by omega
      rw [hdiv, List.getElem?_cons_succ] at h
      rw [List.getElem?_append_right (by simpa using hj), unpack4_length, ih h, show (j - 4) % 4 = j % 4 by omega]

/-- The bytes of a packed table word are its four samples (R99). -/
theorem wordByte_packedWord (p : Params) (sel w : Nat) {i : Nat} (hi : i < 4) :
    wordByte (packedWord p sel w) i = tableByte p sel (4 * w + i) := by
  interval_cases i <;> simp [packedWord]

/-! ### What is pushed -/

/-- A channel's move pushes nothing, or it pushes the word of `ACTIVE` that the lap has come to (R206). -/
theorem DataInvariant.chanMove_pushTrace {s : State} (h : DataInvariant s) (x : Chan) :
    (s.chanMove x).pushTrace = s.pushTrace ∨ (s.chanMove x).pushTrace =
      s.pushTrace ++ [s.wordAt (activeBase + 4 * (s.pushTrace.length % s.params.words))] := by
  have hturns := h.engine.channelsTakeTurns
  cases hbusy : (s.chan x).ctrl.busy with
  | false => exact .inl (by rw [State.chanMove_dormant hbusy])
  | true =>
    cases x with
    | a =>
      have hrun := h.engine.1 (hturns.started (.inl hbusy))
      rcases hrun.one_busy with ha | ⟨hdormant, _⟩
      · obtain ⟨_, _, hpos, _⟩ := id ha
        by_cases hroom : s.txq.length < s.params.qdepth
        · have hle := hrun.a_count
          have hlap : s.pushTrace.length % s.params.words = s.params.words - s.chA.transCount.toNat := by
            rw [hrun.lap_position]
            exact Nat.mod_eq_of_lt (by omega)
          rw [hlap]
          obtain ⟨hword, hlast⟩ := hrun.chanMove_a ha hroom rfl
          by_cases h1 : s.chA.transCount = 1#32
          · exact .inr (by rw [hlast h1])
          · exact .inr (by rw [hword h1])
        · have hne : s.chA.transCount ≠ 0#32 := fun h0 => by simp [h0] at hpos
          obtain ⟨hctrl, _⟩ := hrun.ctrl_fields
          exact .inl (by rw [State.chanMove_full (x := .a) (by rw [State.chan_a, hctrl]) hne (by omega)])
      · exact absurd hbusy (by simp [hdormant])
    | b =>
      have hrun := h.engine.1 (hturns.started (.inr hbusy))
      rcases hrun.one_busy with ⟨_, hdormant, _⟩ | hb
      · exact absurd hbusy (by simp [hdormant])
      · exact .inl (by rw [hrun.chanMove_b hb])

/-- A started block of parameters `p` with no command in progress: table `sel` is the active one, and every word from
push number `first` on is of that table, at its place in the lap (R206). -/
structure StreamsTable (p : Params) (sel first : Nat) (s : State) : Prop where
  data : DataInvariant s
  params_eq : s.params = p
  started : s.started = true
  idle : s.seqPhase = .idle
  selected : s.shapeSel.toNat = sel
  pushed : ∀ k, first ≤ k → k < s.pushTrace.length → s.pushTrace[k]? = some (packedWord p sel (k % p.words))

namespace StreamsTable

variable {p : Params} {sel first : Nat} {s t : State}

/-- Word `w` of the active buffer is that of the selected table (R227). -/
theorem wordAt_active (h : StreamsTable p sel first s) {w : Nat} (hw : w < p.words) :
    s.wordAt (activeBase + 4 * w) = packedWord p sel w := by
  have hactive := h.data.memory.active (h.data.engine.1 h.started).loaded (by simp [h.idle])
  rw [h.selected] at hactive
  have hword := hactive w (by rwa [h.params_eq])
  rwa [h.params_eq] at hword

/-- A move of the engine or of what precedes a move goes on streaming when it pushes nothing, or the table's next
word. -/
theorem of_push (h : StreamsTable p sel first s) (hd : DataInvariant t)
    (hpush : t.pushTrace = s.pushTrace ∨
      t.pushTrace = s.pushTrace ++ [packedWord p sel (s.pushTrace.length % p.words)])
    (ht : t = { s with
      txq := t.txq, pushTrace := t.pushTrace, chA := t.chA, chB := t.chB, err := t.err, osr := t.osr,
      osrCnt := t.osrCnt, pins := t.pins, presc := t.presc, outTrace := t.outTrace, agenda := t.agenda,
      freeCtr := t.freeCtr, busAck := t.busAck, busErr := t.busErr }) : StreamsTable p sel first t where
  data := hd
  params_eq := by rw [ht]; exact h.params_eq
  started := by rw [ht]; exact h.started
  idle := by rw [ht]; exact h.idle
  selected := by rw [ht]; exact h.selected
  pushed := fun k hfirst hk => by
    rcases hpush with hsame | hnew
    · rw [hsame] at hk ⊢
      exact h.pushed k hfirst hk
    · rw [hnew] at hk ⊢
      by_cases hlt : k < s.pushTrace.length
      · rw [List.getElem?_append_left hlt]
        exact h.pushed k hfirst hlt
      · obtain rfl : k = s.pushTrace.length := by
          rw [List.length_append, List.length_singleton] at hk
          omega
        exact List.getElem?_concat_length

theorem chanMove (h : StreamsTable p sel first s) (x : Chan) : StreamsTable p sel first (s.chanMove x) := by
  have hpush := h.data.chanMove_pushTrace x
  obtain ⟨hpos, _⟩ := Params.words_of_legal h.data.registers.params_legal
  rw [h.params_eq] at hpos hpush
  rw [h.wordAt_active (Nat.mod_lt _ hpos)] at hpush
  refine h.of_push (h.data.chanMove x) hpush ?_
  obtain ⟨_, _, _, _, _, hframe⟩ := s.chanMove_frame x
  rw [hframe]

theorem bsuMove (h : StreamsTable p sel first s) : StreamsTable p sel first s.bsuMove :=
  h.of_push h.data.bsuMove (.inl (by rw [State.bsuMove_frame])) (by rw [State.bsuMove_frame])

theorem clockEdge (h : StreamsTable p sel first s) : StreamsTable p sel first s.clockEdge :=
  h.of_push h.data.clockEdge (.inl (by rw [State.clockEdge_frame])) (by rw [State.clockEdge_frame])

/-- With the host silent and no command in progress only the engine moves. -/
theorem of_runMove (h : StreamsTable p sel first s) {m : Move} (hm : m.isAutonomous = true)
    (hmove : runMove m s = .next t) : StreamsTable p sel first t := by
  cases m with
  | host x => simp [Move.isAutonomous] at hm
  | seq =>
    simp only [runMove, seqMove, h.idle] at hmove
    cases hmove
    exact h
  | cha => cases hmove; exact h.chanMove .a
  | chb => cases hmove; exact h.chanMove .b
  | bsu => cases hmove; exact h.bsuMove
  | clock => cases hmove; exact h.clockEdge
  | cycle x =>
    cases x with
    | some txn => simp [Move.isAutonomous] at hm
    | none =>
      obtain ⟨s1, s2, hhost, _, hidle, _, rfl⟩ := cycleMove_cases hmove
      cases hhost
      rw [hidle h.idle]
      exact (h.chanMove _).clockEdge
  | rst => simp [Move.isAutonomous] at hm

/-- Every autonomous schedule goes on streaming the table. -/
theorem of_runSteps {ms : List Move} (h : StreamsTable p sel first s) (hagenda : s.agenda = ms)
    (hauto : ∀ m, m ∈ ms → m.isAutonomous = true) (hrun : runSteps ms.length s = .next t) :
    StreamsTable p sel first t := by
  induction ms generalizing s with
  | nil => cases hrun; exact h
  | cons m rest ih =>
    obtain ⟨u, hstep, hrest⟩ := runSteps_succ_inv hrun
    rw [step_of_agenda hagenda] at hstep
    have hready : StreamsTable p sel first { s with agenda := rest, busAck := false, busErr := false } :=
      h.of_push (h.data.of_registers { h.data.registers with } rfl) (.inl rfl) rfl
    refine ih (hready.of_runMove (hauto m List.mem_cons_self) hstep) ?_ (fun m' hm' => hauto m' ?_) hrest
    · exact (runMove_params_agenda hstep).2
    · exact List.mem_cons_of_mem _ hm'

/-- Every byte presented of a word from push number `first` on is the table's sample at its index (R206). -/
theorem outTrace_getElem? (h : StreamsTable p sel first s) {j : Nat} (hfirst : 4 * first ≤ j)
    (hj : j < s.outTrace.length) : s.outTrace[j]? = some (tableByte p sel (j % p.n)) := by
  have hlegal := h.data.registers.params_legal
  rw [h.params_eq] at hlegal
  obtain ⟨_, _, hn⟩ := Params.words_of_legal hlegal
  have hstream := h.data.stream
  rw [StreamOrdered, List.append_assoc] at hstream
  have hlen := congrArg List.length hstream
  rw [bytesOf_length, List.length_append] at hlen
  have hword := h.pushed (j / 4) (by omega) (by omega)
  calc s.outTrace[j]? = (bytesOf s.pushTrace)[j]? := by rw [hstream, List.getElem?_append_left hj]
    _ = some (tableByte p sel (4 * (j / 4 % p.words) + j % 4)) := by
      rw [bytesOf_getElem? hword, wordByte_packedWord _ _ _ (Nat.mod_lt j (by decide))]
    _ = some (tableByte p sel (j % p.n)) := by rw [hn, Nat.mod_mul, Nat.add_comm]

end StreamsTable

/-- What is pushed and not yet presented is at most three bytes in `osr` and a full queue (R171, R173, R179). -/
theorem DataInvariant.unpresented_le {s : State} (h : DataInvariant s) :
    4 * s.pushTrace.length ≤ s.outTrace.length + (3 + 4 * s.params.qdepth) := by
  have hlen := congrArg List.length h.stream
  have hcnt := h.registers.osrCnt_range
  have hqueue := h.registers.txq_range
  simp only [List.length_append, List.length_take, bytesOf_length] at hlen
  omega

/-- Settles O52: the words pushed before the run are the only ones of an older table, and all but `3 + 4 * QDEPTH` of
their bytes have been presented. -/
theorem staleBytesAreBounded : Obligations.StaleBytesAreBounded := by
  intro s t sel ms hinv hstarted hidle hsel hagenda hauto hrun j hlow hj
  have hstart : StreamsTable s.params sel s.pushTrace.length s :=
    ⟨hinv.data, rfl, hstarted, hidle, hsel, fun k hfirst hk => absurd hk (by omega)⟩
  have hbound := hinv.data.unpresented_le
  exact (hstart.of_runSteps hagenda hauto hrun).outTrace_getElem? (by omega) hj

end Sys2Proof.Machine

/-! ## The address map read backwards (spec/20_memory.md R60 to R64) -/

namespace Sys2Proof.Machine

theorem mem_of_lookup_eq_some {l : List (Nat × Loc)} {a : Nat} {x : Loc} (h : l.lookup a = some x) : (a, x) ∈ l := by
  obtain ⟨l₁, l₂, rfl, _⟩ := List.lookup_eq_some_iff.1 h
  exact List.mem_append_right l₁ List.mem_cons_self

/-- What an aligned address of the table memories can be (R61). -/
theorem tableLoc_cases (p : Params) {a : Nat} (h4 : a % 4 = 0) :
    (∃ sel w, sel ≤ 12 ∧ w < p.n / 4 ∧ a = 0x4000 + 0x400 * sel + 4 * w ∧ tableLoc p a = .shapeMem sel w) ∨
      (∃ w, w < p.n / 4 ∧ a = 0x8000 + 4 * w ∧ tableLoc p a = .active w) ∨ tableLoc p a = .unmapped := by
  unfold tableLoc
  split
  next hs =>
    simp only [nShapes, Params.words] at hs
    exact .inl ⟨_, _, by omega, by omega, by omega, rfl⟩
  next =>
    split
    next ha =>
      have hbase : activeBase = 0x8000 := rfl
      simp only [Params.words] at ha
      exact .inr (.inl ⟨_, by omega, by omega, rfl⟩)
    next => exact .inr (.inr rfl)

/-- What an address can be: a single-word location, a word of a table, a word of `ACTIVE`, or unmapped (R61, R64). -/
theorem locate_cases (p : Params) (a : Nat) :
    (a, locate p a) ∈ wordMap ∨
      (∃ sel w, sel ≤ 12 ∧ w < p.n / 4 ∧ a = 0x4000 + 0x400 * sel + 4 * w ∧ locate p a = .shapeMem sel w) ∨
      (∃ w, w < p.n / 4 ∧ a = 0x8000 + 4 * w ∧ locate p a = .active w) ∨ locate p a = .unmapped := by
  unfold locate
  split
  next h4 =>
    split
    next l hl => exact .inl (mem_of_lookup_eq_some hl)
    next => exact .inr (tableLoc_cases p h4)
  next => exact .inr (.inr (.inr rfl))

/-- The addresses of the single-word locations (R61). -/
theorem wordMap_bounds : ∀ x ∈ wordMap, x.1 % 4 = 0 ∧ (x.1 ≤ 0x28 ∨ (0x100 ≤ x.1 ∧ x.1 ≤ 0x110) ∨
    (0x120 ≤ x.1 ∧ x.1 ≤ 0x130) ∨ x.1 = 0x200 ∨ x.1 = 0x300) := by decide

/-- Of the single-word locations the DMA master reads `LIT` only (R62). -/
theorem wordMap_dmaReadable : ∀ x ∈ wordMap, x.2.dmaReadable = true → x.1 = 0x300 := by decide

/-- Of the single-word locations the DMA master writes `TXQ` and `A.READ_ADDR` only (R62). -/
theorem wordMap_dmaWritable : ∀ x ∈ wordMap,
    (x.2 = .txq → x.1 = 0x200) ∧ (x.2 = .desc .a .readAddr → x.1 = 0x100) := by decide

/-- The DMA master reads exactly the words of `LIT`, the tables and `ACTIVE` (R62). -/
theorem locate_dmaReadable_iff {p : Params} (hp : p.n ≤ 1024) (a : Nat) :
    (locate p a).dmaReadable = true ↔ memoryWordAddress p a := by
  constructor
  · intro h
    rcases locate_cases p a with hmem | ⟨sel, w, hs, hw, ha, _⟩ | ⟨w, hw, ha, _⟩ | hl
    · exact .inl (wordMap_dmaReadable _ hmem h)
    · exact .inr (.inl ⟨sel, w, hs, hw, ha⟩)
    · exact .inr (.inr ⟨w, hw, ha⟩)
    · simp [hl, Loc.dmaReadable] at h
  · have hwords : p.words ≤ 256 := by simp only [Params.words]; omega
    rintro (rfl | ⟨sel, w, hs, hw, rfl⟩ | ⟨w, hw, rfl⟩)
    · rfl
    · have hl : locate p (0x4000 + 0x400 * sel + 4 * w) = .shapeMem sel w := locate_shapeMem hs hw hwords
      rw [hl]
      rfl
    · have hl : locate p (0x8000 + 4 * w) = .active w := locate_active hw
      rw [hl]
      rfl

/-- The host reads whatever the DMA master reads (R62). -/
theorem Loc.hostReadable_of_dmaReadable {l : Loc} (h : l.dmaReadable = true) : l.hostReadable = true := by
  cases l with
  | unmapped => exact absurd h nofun
  | csr | desc | txq | lit | shapeMem | active => rfl

/-- What the DMA master reads is a word of memory (R62, R67). -/
theorem State.content_of_dmaReadable (s : State) (a : Nat) {l : Loc} (h : l.dmaReadable = true) :
    s.content a l = s.wordAt a := by
  cases l with
  | lit | shapeMem | active => rfl
  | csr | desc | txq | unmapped => exact absurd h nofun

/-- Settles O28: a memory word is host-readable, and its content is the word. -/
theorem rdReturnsMemoryWords : Obligations.RdReturnsMemoryWords := by
  intro s a hp haddr
  have hread := (locate_dmaReadable_iff hp a.toNat).2 haddr
  rw [exec_rd_content rfl (Loc.hostReadable_of_dmaReadable hread), State.content_of_dmaReadable _ _ hread]

/-- A refused read answers 0 with `bus_err = 1` and raises `E_BUS` (R64, R242). -/
theorem exec_rd_unmapped {addr : BitVec 16} {s : State} (h : locate s.params addr.toNat = .unmapped) :
    exec (.rd addr) s = .next { s.refuseBus .bus with busRdata := 0#32 } := by
  simp [exec, execRd, h, Loc.hostReadable]

/-- The part of a table's slot that no word of the table occupies (R61), by the offset in the slot. -/
theorem exists_slotGap_iff (a size : Nat) :
    (∃ sel, sel ≤ 12 ∧ 0x4000 + 0x400 * sel + size ≤ a ∧ a < 0x4400 + 0x400 * sel) ↔
      0x4000 ≤ a ∧ a < 0x7400 ∧ size ≤ (a - 0x4000) % 0x400 := by
  constructor
  · rintro ⟨sel, hs, hlow, hhigh⟩
    omega
  · rintro ⟨hlow, hhigh, hgap⟩
    exact ⟨(a - 0x4000) / 0x400, by omega⟩

/-- Settles O29: by `locate_cases` every mapped location lies outside the refused ranges. -/
theorem rdRefusedReturnsZero : Obligations.RdRefusedReturnsZero := by
  intro s a hp hrefused
  rw [exists_slotGap_iff] at hrefused
  have hl : locate s.params a.toNat = .unmapped := by
    rcases locate_cases s.params a.toNat with hmem | ⟨sel, w, hs, hw, ha, _⟩ | ⟨w, hw, ha, _⟩ | hl
    · have hbounds := wordMap_bounds _ hmem
      simp only at hbounds
      omega
    · omega
    · omega
    · exact hl
  exact ⟨_, exec_rd_unmapped hl, fun e => State.hasErr_refuseBus s .bus e, rfl⟩

/-- A DMA write anywhere but to `TXQ` and `A.READ_ADDR` is refused (R62, R64). -/
theorem State.dmaWrite_refused {s : State} {addr : Word} (v : Word) (hq : addr ≠ 0x00000200#32)
    (ha : addr ≠ 0x00000100#32) : s.dmaWrite addr v = s.raise .bus := by
  have hq' : addr.toNat ≠ 0x200 := fun h => hq (BitVec.eq_of_toNat_eq h)
  have ha' : addr.toNat ≠ 0x100 := fun h => ha (BitVec.eq_of_toNat_eq h)
  have hl : locate s.params addr.toNat ≠ .txq ∧ locate s.params addr.toNat ≠ .desc .a .readAddr := by
    rcases locate_cases s.params addr.toNat with hmem | ⟨_, _, _, _, _, hl⟩ | ⟨_, _, _, hl⟩ | hl
    · obtain ⟨hq0, ha0⟩ := wordMap_dmaWritable _ hmem
      exact ⟨fun h => hq' (hq0 h), fun h => ha' (ha0 h)⟩
    all_goals simp [hl]
  unfold State.dmaWrite
  split
  next h => exact absurd h hl.1
  next h => exact absurd h hl.2
  all_goals rfl

/-- Settles O39: the reads by `locate_dmaReadable_iff`, the writes by the location of the address. -/
theorem dmaAccessRights : Obligations.DmaAccessRights := by
  intro s a v hp
  have hiff := locate_dmaReadable_iff hp a.toNat
  refine ⟨fun haddr => ?_, fun haddr => ?_, State.dmaWrite_refused v, State.dmaWrite_aReadAddr rfl,
    fun hroom => ?_, fun hfull => ?_⟩
  · have hread := hiff.2 haddr
    simp only [State.dmaRead, if_pos hread, State.content_of_dmaReadable _ _ hread]
  · simp only [State.dmaRead, if_neg (fun hread => haddr (hiff.1 hread))]
  · exact (State.dmaWrite_txq rfl).trans (State.pushTxq_room hroom)
  · exact (State.dmaWrite_txq rfl).trans (State.pushTxq_full (by omega))

end Sys2Proof.Machine

/-! ## Words and their fields (spec/30_encoding.md R92, R93) -/

namespace Sys2Proof

/-- The direction bit determines the direction (R93). -/
theorem Direction.bit_inj {d e : Direction} : d.bit = e.bit ↔ d = e := by
  cases d <;> cases e <;> decide

/-- A format `F` word is the word with these fields (R92). -/
theorem eq_formatF_iff {w : Word} {k : BitVec 4} {x : BitVec 28} :
    w = (k ++ x : BitVec 32) ↔ opField w = k ∧ w.extractLsb' 0 28 = x := by
  conv_lhs => rw [word_eq_formatF w]
  exact append_eq_append_iff

/-- A format `S` word is the word with these fields (R92). -/
theorem eq_formatS_iff {w : Word} {k : BitVec 4} {z : BitVec 24} {x : BitVec 4} :
    w = (k ++ z ++ x : BitVec 32) ↔ opField w = k ∧ w.extractLsb' 4 24 = z ∧ w.extractLsb' 0 4 = x := by
  conv_lhs => rw [word_eq_formatS w]
  exact append_eq_append_iff.trans (by rw [append_eq_append_iff, and_assoc])

/-- A format `D` word is the word with these fields (R92). -/
theorem eq_formatD_iff {w : Word} {k : BitVec 4} {d : Direction} {z : BitVec 11} {x : BitVec 16} :
    w = (k ++ d.bit ++ z ++ x : BitVec 32) ↔
      opField w = k ∧ dirField w = d ∧ w.extractLsb' 16 11 = z ∧ w.extractLsb' 0 16 = x := by
  conv_lhs => rw [word_eq_formatD w]
  exact append_eq_append_iff.trans (by
    rw [append_eq_append_iff, append_eq_append_iff, Direction.bit_inj, and_assoc, and_assoc])

/-- A format `M` word is the word with these fields (R92). -/
theorem eq_formatM_iff {w : Word} {k : BitVec 4} {d : Direction} {z : BitVec 27} :
    w = (k ++ d.bit ++ z : BitVec 32) ↔ opField w = k ∧ dirField w = d ∧ w.extractLsb' 0 27 = z := by
  conv_lhs => rw [word_eq_formatM w]
  exact append_eq_append_iff.trans (by rw [append_eq_append_iff, Direction.bit_inj, and_assoc])

/-! ## The decoder, row by row (R94): what a word with a row's opcode and must-be-zero bits decodes to -/

/-- `GEN s` takes its shape from `cmd[3:0]` (R93). -/
theorem decodeCmd_gen {w : Word} (hop : opField w = 1#4) (hz : w.extractLsb' 4 24 = 0#24) :
    decodeCmd w = .ok (.gen (shapeField w)) := by
  simp [decodeCmd, hop, formatS, whenZero, hz]

/-- `SETF` has no must-be-zero bit: every word with its opcode is legal (R92). -/
theorem decodeCmd_setf {w : Word} (hop : opField w = 3#4) : decodeCmd w = .ok (.setf (immField w)) := by
  simp [decodeCmd, hop]

/-- `FDELTA` takes direction and magnitude from `cmd[27]` and `cmd[15:0]` (R93). -/
theorem decodeCmd_fdelta {w : Word} (hop : opField w = 4#4) (hz : w.extractLsb' 16 11 = 0#11) :
    decodeCmd w = .ok (.fdelta (dirField w) (magField w)) := by
  simp [decodeCmd, hop, formatD, whenZero, hz]

/-- `MDELTA` takes its direction from `cmd[27]` (R93). -/
theorem decodeCmd_mdelta {w : Word} (hop : opField w = 5#4) (hz : w.extractLsb' 0 27 = 0#27) :
    decodeCmd w = .ok (.mdelta (dirField w)) := by
  simp [decodeCmd, hop, formatM, whenZero, hz]

/-- `WAVE s` takes its shape from `cmd[3:0]` (R93). -/
theorem decodeCmd_wave {w : Word} (hop : opField w = 9#4) (hz : w.extractLsb' 4 24 = 0#24) :
    decodeCmd w = .ok (.wave (shapeField w)) := by
  simp [decodeCmd, hop, formatS, whenZero, hz]

/-! ## Decoding an encoding (R91 to R94) -/

/-- A four-bit shape operand reads back from its format `S` word. -/
theorem shapeField_formatS {s : Nat} (hs : s < 16) (k : BitVec 4) (z : BitVec 24) :
    shapeField (k ++ z ++ BitVec.ofNat 4 s : BitVec 32) = s := by
  obtain ⟨_, _, hx⟩ := eq_formatS_iff.1 (rfl : (k ++ z ++ BitVec.ofNat 4 s : BitVec 32) = _)
  rw [shapeField, hx, BitVec.toNat_ofNat, Nat.mod_eq_of_lt hs]

/-- A 28-bit signed operand reads back from its format `F` word. -/
theorem immField_formatF {imm : Int} (hlow : -134217728 ≤ imm) (hhigh : imm ≤ 134217727) (k : BitVec 4) :
    immField (k ++ BitVec.ofInt 28 imm : BitVec 32) = imm := by
  obtain ⟨_, hx⟩ := eq_formatF_iff.1 (rfl : (k ++ BitVec.ofInt 28 imm : BitVec 32) = _)
  rw [immField, hx, BitVec.toInt_ofInt]
  exact Int.bmod_eq_of_le (by omega) (by omega)

/-- Settles O1: each row's word has the row's opcode and zeros, and the operand fields read back. -/
theorem wellFormedInstructionsRoundTrip : Obligations.WellFormedInstructionsRoundTrip := by
  intro i hwf
  cases i with
  | nop | genall | applydiv | quiesce | resume | start | rd | wr => rfl
  | gen s =>
    obtain ⟨hop, hz, _⟩ := eq_formatS_iff.1 (rfl : (1#4 ++ 0#24 ++ BitVec.ofNat 4 s : BitVec 32) = _)
    exact (decodeCmd_gen hop hz).trans (by rw [shapeField_formatS (of_decide_eq_true hwf)])
  | wave s =>
    obtain ⟨hop, hz, _⟩ := eq_formatS_iff.1 (rfl : (9#4 ++ 0#24 ++ BitVec.ofNat 4 s : BitVec 32) = _)
    exact (decodeCmd_wave hop hz).trans (by rw [shapeField_formatS (of_decide_eq_true hwf)])
  | setf imm =>
    simp only [Instr.wellFormed, Bool.and_eq_true, decide_eq_true_eq] at hwf
    obtain ⟨hlow, hhigh⟩ := hwf
    obtain ⟨hop, _⟩ := eq_formatF_iff.1 (rfl : (3#4 ++ BitVec.ofInt 28 imm : BitVec 32) = _)
    exact (decodeCmd_setf hop).trans (by rw [immField_formatF hlow hhigh])
  | fdelta dir mag =>
    have hmag : mag ≤ 65535 := of_decide_eq_true hwf
    obtain ⟨hop, hdir, hz, hx⟩ :=
      eq_formatD_iff.1 (rfl : (4#4 ++ dir.bit ++ 0#11 ++ BitVec.ofNat 16 mag : BitVec 32) = _)
    refine (decodeCmd_fdelta hop hz).trans ?_
    rw [hdir, magField, hx, BitVec.toNat_ofNat, Nat.mod_eq_of_lt (by omega)]
  | mdelta dir =>
    obtain ⟨hop, hdir, hz⟩ := eq_formatM_iff.1 (rfl : (5#4 ++ dir.bit ++ 0#27 : BitVec 32) = _)
    exact (decodeCmd_mdelta hop hz).trans (by rw [hdir])

/-! ## Encoding what was decoded (R92, R96) -/

/-- The shape operand as its four bits (R93). -/
theorem ofNat_shapeField (w : Word) : BitVec.ofNat 4 (shapeField w) = w.extractLsb' 0 4 := by
  rw [shapeField, BitVec.ofNat_toNat, BitVec.setWidth_eq]

/-- The magnitude operand as its sixteen bits (R93). -/
theorem ofNat_magField (w : Word) : BitVec.ofNat 16 (magField w) = w.extractLsb' 0 16 := by
  rw [magField, BitVec.ofNat_toNat, BitVec.setWidth_eq]

/-- A format `Z` word that is accepted is its opcode and zeros. -/
theorem of_formatZ_ok {w : Word} {k : Nat} {i j : Instr} (hop : (opField w).toNat = k) (h : formatZ w i = .ok j) :
    i = j ∧ (BitVec.ofNat 4 k ++ 0#28 : BitVec 32) = w := by
  obtain ⟨hz, hi⟩ := (whenZero_ok_iff _ _ _).1 h
  exact ⟨hi, (eq_formatF_iff.2 ⟨opField_of_toNat hop, hz⟩).symm⟩

/-- A format `S` word that is accepted is its opcode, zeros and its shape operand. -/
theorem of_formatS_ok {w : Word} {k : Nat} {i j : Instr} (hop : (opField w).toNat = k) (h : formatS w i = .ok j) :
    i = j ∧ (BitVec.ofNat 4 k ++ 0#24 ++ BitVec.ofNat 4 (shapeField w) : BitVec 32) = w := by
  obtain ⟨hz, hi⟩ := (whenZero_ok_iff _ _ _).1 h
  exact ⟨hi, (eq_formatS_iff.2 ⟨opField_of_toNat hop, hz, (ofNat_shapeField w).symm⟩).symm⟩

/-- A format `D` word that is accepted is its opcode, direction, zeros and magnitude. -/
theorem of_formatD_ok {w : Word} {k : Nat} {i j : Instr} (hop : (opField w).toNat = k) (h : formatD w i = .ok j) :
    i = j ∧ (BitVec.ofNat 4 k ++ (dirField w).bit ++ 0#11 ++ BitVec.ofNat 16 (magField w) : BitVec 32) = w := by
  obtain ⟨hz, hi⟩ := (whenZero_ok_iff _ _ _).1 h
  exact ⟨hi, (eq_formatD_iff.2 ⟨opField_of_toNat hop, rfl, hz, (ofNat_magField w).symm⟩).symm⟩

/-- A format `M` word that is accepted is its opcode, direction and zeros. -/
theorem of_formatM_ok {w : Word} {k : Nat} {i j : Instr} (hop : (opField w).toNat = k) (h : formatM w i = .ok j) :
    i = j ∧ (BitVec.ofNat 4 k ++ (dirField w).bit ++ 0#27 : BitVec 32) = w := by
  obtain ⟨hz, hi⟩ := (whenZero_ok_iff _ _ _).1 h
  exact ⟨hi, (eq_formatM_iff.2 ⟨opField_of_toNat hop, rfl, hz⟩).symm⟩

/-- Settles O2: by the opcode, and for each by the lemma of its format. -/
theorem legalCommandWordsAreEncodings : Obligations.LegalCommandWordsAreEncodings := by
  intro w i h
  unfold decodeCmd at h
  split at h
  case h_1 hop | h_3 hop | h_7 hop | h_8 hop | h_9 hop | h_11 hop =>
    obtain ⟨rfl, hw⟩ := of_formatZ_ok hop h
    exact ⟨rfl, congrArg Encoded.cmd hw⟩
  case h_2 hop | h_10 hop =>
    obtain ⟨rfl, hw⟩ := of_formatS_ok hop h
    exact ⟨decide_eq_true (w.extractLsb' 0 4).isLt, congrArg Encoded.cmd hw⟩
  case h_4 hop =>
    cases h
    refine ⟨?_, congrArg Encoded.cmd (eq_formatF_iff.2 ⟨opField_of_toNat hop, BitVec.ofInt_toInt.symm⟩).symm⟩
    exact Bool.and_eq_true_iff.2 ⟨decide_eq_true (w.extractLsb' 0 28).le_toInt,
      decide_eq_true (Int.le_of_lt_add_one (w.extractLsb' 0 28).toInt_lt)⟩
  case h_5 hop =>
    obtain ⟨rfl, hw⟩ := of_formatD_ok hop h
    exact ⟨decide_eq_true (Nat.le_of_lt_succ (w.extractLsb' 0 16).isLt), congrArg Encoded.cmd hw⟩
  case h_6 hop =>
    obtain ⟨rfl, hw⟩ := of_formatM_ok hop h
    exact ⟨rfl, congrArg Encoded.cmd hw⟩
  case h_12 => cases h

/-! ## The opcode map (R94, R95) -/

/-- Every instruction's encoding matches its row (R94): the lemmas of `Laws.EncodeMatchesRow` together. -/
theorem encode_matches_row (i : Instr) : Laws.EncodeMatchesRow.Statement i := by
  cases i with
  | nop => exact Laws.EncodeMatchesRow.nop
  | gen s => exact Laws.EncodeMatchesRow.gen s
  | genall => exact Laws.EncodeMatchesRow.genall
  | setf imm => exact Laws.EncodeMatchesRow.setf imm
  | fdelta dir mag => exact Laws.EncodeMatchesRow.fdelta dir mag
  | mdelta dir => exact Laws.EncodeMatchesRow.mdelta dir
  | applydiv => exact Laws.EncodeMatchesRow.applydiv
  | quiesce => exact Laws.EncodeMatchesRow.quiesce
  | resume => exact Laws.EncodeMatchesRow.resume
  | wave s => exact Laws.EncodeMatchesRow.wave s
  | start => exact Laws.EncodeMatchesRow.start
  | rd addr => exact Laws.EncodeMatchesRow.rd addr
  | wr addr data => exact Laws.EncodeMatchesRow.wr addr data

/-- The mnemonics of the map name its rows (R94). -/
theorem opcodeRows_mnemonic_inj : ∀ r ∈ opcodeRows, ∀ q ∈ opcodeRows, r.mnemonic = q.mnemonic → r = q := by
  decide

/-- A word compared in all its bits decodes as the pattern does. -/
theorem decodeCmd_of_full_mask {w p : Word} {i : Instr} (hm : w &&& 0xFFFFFFFF#32 = p) (hp : decodeCmd p = .ok i) :
    decodeCmd w = .ok i := by
  have hw : w &&& BitVec.allOnes 32 = p := hm
  rwa [BitVec.and_allOnes.symm.trans hw]

/-- A word that matches the row of `GEN` (R94). -/
theorem decodeCmd_of_gen_mask {w : Word} (hm : w &&& 0xFFFFFFF0#32 = 0x10000000#32) :
    decodeCmd w = .ok (.gen (shapeField w)) :=
  have ⟨hop, hz⟩ := (masked_formatS_iff w 1#4).1 hm
  decodeCmd_gen hop hz

/-- A word that matches a row decodes to an instruction of that row (R94). -/
theorem decodeCmd_of_matchesWord {r : OpcodeRow} {w : Word} (hr : r ∈ opcodeRows) (hw : r.matchesWord w = true) :
    ∃ i, decodeCmd w = .ok i ∧ i.mnemonic = r.mnemonic := by
  have hm : w &&& r.mask = r.pattern := eq_of_beq hw
  simp only [opcodeRows, List.mem_cons, List.not_mem_nil, or_false] at hr
  obtain rfl | rfl | rfl | rfl | rfl | rfl | rfl | rfl | rfl | rfl | rfl := hr
  · exact ⟨.nop, decodeCmd_of_full_mask hm rfl, rfl⟩
  · exact ⟨_, decodeCmd_of_gen_mask hm, rfl⟩
  · exact ⟨.genall, decodeCmd_of_full_mask hm rfl, rfl⟩
  · exact ⟨_, decodeCmd_setf ((masked_formatF_iff w 3#4).1 hm), rfl⟩
  · obtain ⟨hop, hz⟩ := (masked_formatD_iff w 4#4).1 hm
    exact ⟨_, decodeCmd_fdelta hop hz, rfl⟩
  · obtain ⟨hop, hz⟩ := (masked_formatM_iff w 5#4).1 hm
    exact ⟨_, decodeCmd_mdelta hop hz, rfl⟩
  · exact ⟨.applydiv, decodeCmd_of_full_mask hm rfl, rfl⟩
  · exact ⟨.quiesce, decodeCmd_of_full_mask hm rfl, rfl⟩
  · exact ⟨.resume, decodeCmd_of_full_mask hm rfl, rfl⟩
  · obtain ⟨hop, hz⟩ := (masked_formatS_iff w 9#4).1 hm
    exact ⟨_, decodeCmd_wave hop hz, rfl⟩
  · exact ⟨.start, decodeCmd_of_full_mask hm rfl, rfl⟩

/-- A word that decodes matches the row of its instruction (R94), because it is the instruction's encoding. -/
theorem matchesWord_of_decodeCmd {w : Word} {i : Instr} (h : decodeCmd w = .ok i) :
    ∃ r ∈ opcodeRows, r.mnemonic = i.mnemonic ∧ r.matchesWord w = true := by
  obtain ⟨hwf, henc⟩ := legalCommandWordsAreEncodings w i h
  have hrow := encode_matches_row i hwf
  rwa [henc] at hrow

/-- A word matches a row exactly when it decodes to an instruction of that row (R94). -/
theorem matchesWord_iff {r : OpcodeRow} (hr : r ∈ opcodeRows) (w : Word) :
    r.matchesWord w = true ↔ ∃ i, decodeCmd w = .ok i ∧ i.mnemonic = r.mnemonic := by
  refine ⟨decodeCmd_of_matchesWord hr, fun ⟨i, hi, hmn⟩ => ?_⟩
  obtain ⟨q, hq, hqi, hw⟩ := matchesWord_of_decodeCmd hi
  obtain rfl := opcodeRows_mnemonic_inj r hr q hq (hmn.symm.trans hqi.symm)
  exact hw

/-- Exactly one row has the mnemonic of a command (R94). -/
theorem rows_of_mnemonic {i : Instr} (hrd : ∀ a, i ≠ .rd a) (hwr : ∀ a d, i ≠ .wr a d) :
    (opcodeRows.filter (fun r => decide (i.mnemonic = r.mnemonic))).map OpcodeRow.mnemonic = [i.mnemonic] := by
  cases i with
  | rd a => exact absurd rfl (hrd a)
  | wr a d => exact absurd rfl (hwr a d)
  | nop | gen | genall | setf | fdelta | mdelta | applydiv | quiesce | resume | wave | start => rfl

/-- Settles O3: by `matchesWord_iff` the matching rows are those with the decoded instruction's mnemonic. -/
theorem decoderMatchesOpcodeMap : Obligations.DecoderMatchesOpcodeMap := by
  intro w
  cases hd : decodeCmd w with
  | ok i =>
    obtain ⟨hrd, hwr⟩ := Machine.decodeCmd_ne_bus hd
    refine Eq.trans (congrArg _ (List.filter_congr fun r hr => ?_)) (rows_of_mnemonic hrd hwr)
    rw [Bool.eq_iff_iff, matchesWord_iff hr w, hd, decide_eq_true_iff]
    simp
  | error e =>
    have hnone : opcodeRows.filter (fun r => r.matchesWord w) = [] := by
      refine List.filter_eq_nil_iff.2 fun r hr hw => ?_
      obtain ⟨i, hi, _⟩ := decodeCmd_of_matchesWord hr hw
      cases hd.symm.trans hi
    rw [hnone]
    rfl

/-- Settles O4: ten closed words, each evaluated by the decoder. -/
theorem sampleWordsDecode : Obligations.SampleWordsDecode := by
  unfold Obligations.SampleWordsDecode
  decide

end Sys2Proof

/-! ## Steps of the sequencer and the host (spec/45_host_interface.md R241, R246), and `GEN` (R131) -/

namespace Sys2Proof.Machine

/-- A word that matches no row is refused by the decoder (R96). -/
theorem decodeCmd_of_no_row {w : Word} (h : ∀ r, r ∈ opcodeRows → r.matchesWord w = false) :
    ∃ e, decodeCmd w = .error e := by
  cases hd : decodeCmd w with
  | error e => exact ⟨e, rfl⟩
  | ok i =>
    obtain ⟨r, hr, _, hw⟩ := matchesWord_of_decodeCmd hd
    cases (h r hr).symm.trans hw

/-- In `EXEC` an illegal command word is refused with `E_ILLEGAL_CMD` (R96, R246). -/
theorem seqMove_of_decode_error {s : State} {e : DecodeError} (hp : s.seqPhase = .exec)
    (hd : decodeCmd s.cmdReg = .error e) : seqMove s = .next (s.refuseCmd .illegalCmd) := by
  simp [seqMove, hp, hd]

/-- Settles O9: the step is the sequencer's, whose word the decoder refuses. -/
theorem illegalWordOnlyRaisesFlag : Obligations.IllegalWordOnlyRaisesFlag := by
  intro s rest hag hp hrows
  obtain ⟨e, hd⟩ := decodeCmd_of_no_row hrows
  exact ⟨_, (step_of_agenda hag).trans (seqMove_of_decode_error hp hd),
    fun cause => State.hasErr_refuseCmd _ .illegalCmd cause, rfl⟩

/-- Settles O7: `decodeBus` reads the transaction's kind from `bus_we`. -/
theorem hostStepRunsTransaction : Obligations.HostStepRunsTransaction :=
  fun _ _ _ _ => ⟨step_of_agenda, step_of_agenda⟩

/-- Before `START`, `GEN` of a table that exists generates it and completes (R131). -/
theorem exec_gen_of_not_started {sel : Nat} {s : State} (hst : s.started = false) (hsel : sel ≤ 12) :
    exec (.gen sel) s = .next (s.generate sel).finish := by
  simp [exec, execGen, hst, Nat.not_lt.2 hsel]

/-- Settles O16: the bytes and `gen_done` are those of `State.generate`, which `finish` keeps. -/
theorem genWritesItsTable : Obligations.GenWritesItsTable := by
  refine ⟨fun w hm => ?_, fun sel s hst hsel => ?_⟩
  · rw [decodeCmd_of_gen_mask hm, shapeField_eq_mod]
  · exact ⟨_, exec_gen_of_not_started hst hsel, fun w hw => State.wordAt_generate s sel w hw,
      fun a ha => State.byteAt_generate_outside s sel a ha, fun i => State.generated_generate s sel i hsel, rfl⟩

end Sys2Proof.Machine

/-! ## The later phases of a command (spec/45_host_interface.md R246), `GEN` refused and `GENALL`
(spec/40_table_generator.md R131, R132) -/

namespace Sys2Proof.Machine

/-! ### The step a phase names -/

/-- In the loop `GENALL` generates the table of its index (R132). -/
theorem exec_genall_of_genLoop {s : State} (hp : s.seqPhase = .genLoop) : exec .genall s = genallStep s := by
  simp only [exec, execGenall, hp]

/-- In `EXEC` `GENALL` does its step 0 (R132). -/
theorem exec_genall_of_exec {s : State} (hp : s.seqPhase = .exec) : exec .genall s = genallBegin s := by
  simp only [exec, execGenall, hp]

/-- In the copy phase `WAVE` copies one word (R224). -/
theorem exec_wave_of_wvCopy {s : State} (hp : s.seqPhase = .wvCopy) (sel : Nat) :
    exec (.wave sel) s = waveCopy sel s := by
  simp only [exec, execWave, hp]

/-- In the loop the sequencer goes on with `GENALL` (R246). -/
theorem seqMove_of_genLoop {s : State} (hp : s.seqPhase = .genLoop) : seqMove s = exec .genall s := by
  simp only [seqMove, hp]

/-- In `EXEC` the sequencer performs the command in `cmd_reg` (R246). -/
theorem seqMove_of_decode_ok {s : State} {i : Instr} (hp : s.seqPhase = .exec) (hd : decodeCmd s.cmdReg = .ok i) :
    seqMove s = exec i s := by
  simp only [seqMove, hp, hd]

/-- In the phases of `WAVE` the sequencer goes on with it, for the shape in `cmd_reg[3:0]` (R224, R246). -/
theorem seqMove_of_wave_phase {s : State}
    (hp : s.seqPhase = .wvQuiesce ∨ s.seqPhase = .wvCopy ∨ s.seqPhase = .wvResume) :
    seqMove s = exec (.wave (s.cmdReg.toNat % 16)) s := by
  rw [← shapeField_eq_mod]
  obtain hp | hp | hp := hp <;> simp only [seqMove, hp]

/-- Settles O8: the step is the sequencer's, whose phase names the command. -/
theorem laterPhasesContinueTheirCommand : Obligations.LaterPhasesContinueTheirCommand :=
  fun _ _ hag => ⟨fun hp => (step_of_agenda hag).trans (seqMove_of_genLoop hp),
    fun hp => (step_of_agenda hag).trans (seqMove_of_wave_phase hp)⟩

/-- Settles O26: both steps check the index first. -/
theorem corruptSequencerIndexFaults : Obligations.CorruptSequencerIndexFaults := by
  refine ⟨fun s hp hidx => ?_, fun sel s hp hidx => ?_⟩
  · rw [exec_genall_of_genLoop hp, genallStep, if_pos hidx]
  · rw [exec_wave_of_wvCopy hp, waveCopy, Params.words, if_pos hidx]

/-! ### `GEN` refused and step 0 of `GENALL` -/

/-- Settles O17: the refusal is `State.refuseCmd`, which raises one flag and completes. -/
theorem genRefusedOnlyRaisesFlag : Obligations.GenRefusedOnlyRaisesFlag := by
  intro sel s hbad
  have hexec : exec (.gen sel) s = .next (s.refuseCmd .illegalCmd) := if_pos hbad
  exact ⟨_, hexec, State.hasErr_refuseCmd s .illegalCmd, rfl⟩

/-- Before `START`, step 0 of `GENALL` enters the loop at index 0 (R132). -/
theorem genallBegin_of_not_started {s : State} (hst : s.started = false) :
    genallBegin s = .next { s with seqIdx := 0#9, seqPhase := .genLoop } := by
  simp [genallBegin, hst]

/-- Once started, step 0 of `GENALL` is refused (R132). -/
theorem genallBegin_of_started {s : State} (hst : s.started = true) :
    genallBegin s = .next (s.refuseCmd .illegalCmd) := by
  simp [genallBegin, hst]

/-- Settles O18: in `EXEC` the step is step 0, decided by `STARTED`. -/
theorem genallBeginsLoop : Obligations.GenallBeginsLoop := by
  refine ⟨rfl, fun s hp => ⟨fun hst => ?_, fun hst => ?_⟩⟩
  · exact (exec_genall_of_exec hp).trans (genallBegin_of_not_started hst)
  · exact ⟨_, (exec_genall_of_exec hp).trans (genallBegin_of_started hst),
      State.hasErr_refuseCmd s .illegalCmd, rfl⟩

/-! ### The loop of `GENALL` -/

/-- A table before the last: the loop goes on to the next index (R132). -/
theorem genallStep_of_lt {s : State} (h : s.seqIdx.toNat < 12) :
    genallStep s = .next { s.generate s.seqIdx.toNat with seqIdx := BitVec.ofNat 9 (s.seqIdx.toNat + 1) } := by
  simp only [genallStep, if_neg (show ¬ 12 < s.seqIdx.toNat by omega), if_neg (Nat.ne_of_lt h)]

/-- The last table: the command completes (R132). -/
theorem genallStep_last {s : State} (h : s.seqIdx.toNat = 12) : genallStep s = .next (s.generate 12).finish := by
  simp only [genallStep, h, Nat.lt_irrefl, if_false, if_true]

/-- Settles O19: the step stores what `State.generate` stores, and `seq_idx` tells whether it was the last. -/
theorem genallLoopGeneratesOneTable : Obligations.GenallLoopGeneratesOneTable := by
  rintro k s hp rfl hk
  have hword (w : Nat) (hw : w < s.params.n / 4) := State.wordAt_generate s s.seqIdx.toNat w hw
  have hout := State.byteAt_generate_outside s s.seqIdx.toNat
  have hgen (i : Nat) := State.generated_generate s s.seqIdx.toNat i hk
  rw [exec_genall_of_genLoop hp]
  rcases Nat.lt_or_eq_of_le hk with hlt | hlast
  · refine ⟨_, genallStep_of_lt hlt, hword, hout, hgen, fun _ => ⟨?_, rfl⟩, fun hlast => absurd hlast hlt.ne⟩
    rw [BitVec.toNat_ofNat]
    omega
  · rw [hlast] at hword hout hgen ⊢
    exact ⟨_, genallStep_last hlast, hword, hout, hgen, fun hlt => absurd hlt (Nat.lt_irrefl 12), fun _ => rfl⟩

/-! ### Thirteen tables in a row -/

/-- The state after generating the tables below `k`, in index order. -/
def State.generateBelow (s : State) (k : Nat) : State := (List.range k).foldl State.generate s

@[simp] theorem State.generateBelow_zero (s : State) : s.generateBelow 0 = s := rfl

theorem State.generateBelow_succ (s : State) (k : Nat) :
    s.generateBelow (k + 1) = (s.generateBelow k).generate k := by
  simp [State.generateBelow, List.range_succ]

/-- Generating tables writes memory and `gen_done` only (R130). -/
theorem State.generateBelow_frame (s : State) (k : Nat) :
    s.generateBelow k = { s with mem := (s.generateBelow k).mem, genDone := (s.generateBelow k).genDone } := by
  induction k with
  | zero => rfl
  | succ k ih =>
    rw [State.generateBelow_succ, ih]
    rfl

/-- `GEN 0` to `GEN k` in a row, each performed on what the one before it answers: the tables below `k + 1` and the
completion. The fold's function is any that performs `GEN` on a next state. -/
theorem foldl_gen_eq_generateBelow {f : Result State → Nat → Result State}
    (hf : ∀ v k, f (.next v) k = exec (.gen k) v) {s : State} (hst : s.started = false) {k : Nat} (hk : k ≤ 12) :
    (List.range (k + 1)).foldl f (.next s) = .next (s.generateBelow (k + 1)).finish := by
  induction k with
  | zero => exact (hf s 0).trans (exec_gen_of_not_started hst hk)
  | succ k ih =>
    have hst' : (s.generateBelow (k + 1)).finish.started = false := by
      rw [State.generateBelow_frame]
      exact hst
    rw [List.range_succ, List.foldl_append, ih (by omega), List.foldl_cons, List.foldl_nil, hf,
      exec_gen_of_not_started hst' hk, State.generateBelow_succ s (k + 1)]
    rfl

/-- The loop of `GENALL` before table `k`, with `m` sequencer moves to come. -/
def State.genLoopAt (s : State) (k m : Nat) : State :=
  { s.generateBelow k with
    seqIdx := BitVec.ofNat 9 k, seqPhase := .genLoop, busAck := false, busErr := false,
    agenda := List.replicate m .seq }

/-- `seq_idx` is the number of the table to come. -/
theorem State.genLoopAt_seqIdx (s : State) {k m : Nat} (hk : k ≤ 12) : (s.genLoopAt k m).seqIdx.toNat = k := by
  simp only [State.genLoopAt, BitVec.toNat_ofNat]
  omega

/-- The sequencer's step in the loop is the step of `GENALL`. -/
theorem step_genLoopAt (s : State) (k m : Nat) : step (s.genLoopAt k (m + 1)) = genallStep (s.genLoopAt k m) := by
  have hexec := (laterPhasesContinueTheirCommand (s.genLoopAt k (m + 1)) (List.replicate m .seq) rfl).1 rfl
  exact hexec.trans (exec_genall_of_genLoop rfl)

/-- `k` steps of the loop from its start generate the tables below `k`. -/
theorem runSteps_genLoopAt (s : State) {k : Nat} (hk : k ≤ 12) (m : Nat) :
    runSteps k (s.genLoopAt 0 (k + m)) = .next (s.genLoopAt k m) := by
  induction k generalizing m with
  | zero => rw [Nat.zero_add, runSteps_zero]
  | succ k ih =>
    have hidx := s.genLoopAt_seqIdx (k := k) (m := m) (by omega)
    have hstep : step (s.genLoopAt k (m + 1)) = .next (s.genLoopAt (k + 1) m) := by
      rw [step_genLoopAt, genallStep_of_lt (by omega), hidx]
      simp only [State.genLoopAt, State.generateBelow_succ]
      rfl
    rw [Nat.add_assoc, Nat.add_comm 1 m, runSteps_add (ih (by omega) (m + 1)), runSteps_succ hstep, runSteps_zero]

/-- The last step of the loop leaves the thirteen tables, the command completed and `seq_idx` at 12. -/
theorem step_genLoopAt_last (s : State) : step (s.genLoopAt 12 1) = .next { (s.generateBelow 13).finish with
    seqIdx := 12#9, busAck := false, busErr := false, agenda := [] } := by
  rw [step_genLoopAt, genallStep_last (s.genLoopAt_seqIdx (by omega)), State.generateBelow_succ]
  rfl

/-- Step 0 of an accepted `GENALL` enters the loop. -/
theorem step_genall_begin {s : State} (hst : s.started = false) (hp : s.seqPhase = .exec)
    (hd : decodeCmd s.cmdReg = .ok .genall) {m : Nat} (hag : s.agenda = List.replicate (m + 1) .seq) :
    step s = .next (s.genLoopAt 0 m) := by
  have hexec := (step_of_agenda hag).trans (seqMove_of_decode_ok hp hd)
  rw [hexec, exec_genall_of_exec, genallBegin_of_not_started]
  exacts [rfl, hst, hp]

/-- Settles O20: both runs end in `State.generateBelow 13`, completed. -/
theorem genallEqualsThirteenGens : Obligations.GenallEqualsThirteenGens := by
  intro s hst hp hcmd hack herr hag
  have hbegin : step s = .next (s.genLoopAt 0 13) := step_genall_begin hst hp (by rw [hcmd]; rfl) hag
  have hloop := (runSteps_add (k := 1) (runSteps_genLoopAt s (le_refl 12) 1)).trans
    (runSteps_succ (step_genLoopAt_last s))
  refine ⟨_, _, (runSteps_succ hbegin).trans hloop,
    foldl_gen_eq_generateBelow (fun _ _ => rfl) hst (le_refl 12), ?_⟩
  rw [State.generateBelow_frame]
  simp only [State.finish, hack, herr]

end Sys2Proof.Machine

/-! ## The sample tables (spec/40_table_generator.md R120 to R129) -/

namespace Sys2Proof.Machine

/-! ### Rounding (R122) -/

/-- An integer nearest to a quotient, and how an exact half is resolved, multiplied out. -/
theorem isRounded_iff {tie : RoundTie} {num den x : Nat} : IsRounded tie num den x ↔
    (2 * num ≤ 2 * (den * x) + den ∧ 2 * (den * x) ≤ 2 * num + den) ∧
      (2 * (num % den) = den → (tie = .halfEven → x % 2 = 0) ∧ (tie = .halfUp → x = num / den + 1)) := by
  unfold IsRounded
  refine and_congr ?_ (by cases tie <;> simp)
  rw [abs_le]
  push_cast [← Int.ofNat_le]
  constructor <;> rintro ⟨hlow, hhigh⟩ <;> constructor <;> linarith

/-- The model's rounding in integers is rounding: the quotient of `num + den / 2` is the upper of two nearest integers,
and the lower one is taken when that is the even one (R122). -/
theorem roundTie_isRounded (tie : RoundTie) (num : Nat) {den : Nat} (hden : 0 < den) :
    IsRounded tie num den (roundTie tie num den) := by
  have hdiv := Nat.div_add_mod (2 * num + den) (2 * den)
  have hmod := Nat.mod_lt (2 * num + den) (show 0 < 2 * den by omega)
  have hhalf (h : 2 * (num % den) = den) : 2 * num + den = 2 * den * (num / den + 1) := by
    linarith [Nat.div_add_mod num den]
  rw [Nat.mul_assoc] at hdiv
  rw [isRounded_iff]
  cases tie with
  | halfUp =>
    simp only [roundTie]
    refine ⟨by omega, fun h => ⟨nofun, fun _ => ?_⟩⟩
    rw [hhalf h, Nat.mul_div_cancel_left _ (by omega)]
  | halfEven =>
    simp only [roundTie]
    split
    next hlower =>
      obtain ⟨hexact, hodd⟩ := hlower
      refine ⟨?_, fun _ => ⟨fun _ => by omega, nofun⟩⟩
      rw [Nat.mul_sub]
      omega
    next hupper =>
      refine ⟨by omega, fun h => ⟨fun _ => ?_, nofun⟩⟩
      have hexact : (2 * num + den) % (2 * den) = 0 := by rw [hhalf h, Nat.mul_mod_right]
      omega

/-- Rounding never falls when the numerator grows: it could do so only between the two resolutions of one exact
half. -/
theorem IsRounded.le_of_le {tie : RoundTie} {a b den x y : Nat} (hden : 0 < den) (hx : IsRounded tie a den x)
    (hy : IsRounded tie b den y) (hab : a ≤ b) : x ≤ y := by
  obtain ⟨⟨_, hxa⟩, htiex⟩ := isRounded_iff.1 hx
  obtain ⟨⟨hby, _⟩, htiey⟩ := isRounded_iff.1 hy
  by_contra hlt
  have hstep : den * y + den ≤ den * x := Nat.mul_le_mul_left den (show y + 1 ≤ x by omega)
  obtain rfl : a = b := by omega
  obtain rfl : x = y + 1 := Nat.eq_of_mul_eq_mul_left hden (by rw [Nat.mul_succ]; omega)
  have hquot : a / den = y := by
    rw [show a = den * y + den / 2 by omega, Nat.mul_add_div hden, Nat.div_eq_of_lt (by omega), Nat.add_zero]
  have hexact : 2 * (a % den) = den := by
    have hdiv := Nat.div_add_mod a den
    rw [hquot] at hdiv
    omega
  obtain ⟨hevenx, _⟩ := htiex hexact
  obtain ⟨heveny, hupy⟩ := htiey hexact
  cases tie with
  | halfUp =>
    have := hupy rfl
    omega
  | halfEven =>
    have := hevenx rfl
    have := heveny rfl
    omega

/-- A multiple of the denominator is rounded to its factor. -/
theorem roundTie_mul (tie : RoundTie) (c : Nat) {den : Nat} (hden : 0 < den) : roundTie tie (c * den) den = c := by
  have hround := roundTie_isRounded tie (c * den) hden
  have hself : IsRounded tie (c * den) den c :=
    isRounded_iff.2 ⟨by rw [Nat.mul_comm den c]; omega, by rw [Nat.mul_mod_left]; omega⟩
  exact Nat.le_antisymm (hround.le_of_le hden hself le_rfl) (hself.le_of_le hden hround le_rfl)

/-- Rounding in integers never falls when the numerator grows. -/
theorem roundTie_mono (tie : RoundTie) {a b den : Nat} (hden : 0 < den) (hab : a ≤ b) :
    roundTie tie a den ≤ roundTie tie b den :=
  (roundTie_isRounded tie a hden).le_of_le hden (roundTie_isRounded tie b hden) hab

/-- The rounded quotient is at most `c` when the quotient is. -/
theorem roundTie_le (tie : RoundTie) {num den c : Nat} (hden : 0 < den) (h : num ≤ c * den) :
    roundTie tie num den ≤ c :=
  (roundTie_mono tie hden h).trans_eq (roundTie_mul tie c hden)

/-! ### The triangle (R126) -/

/-- The numerator of the triangle's quotient over `N`: `|255 * N - 510 * i|`. -/
def triangleNum (p : Params) (i : Nat) : Nat := ((255 * p.n : Int) - 510 * i).natAbs

theorem triangleSample_floor {p : Params} (h : p.triQuant = .floor) (i : Nat) :
    triangleSample p i = triangleNum p i / p.n := by
  simp only [triangleSample, h, triangleNum]

theorem triangleSample_round {p : Params} (h : p.triQuant = .round) (i : Nat) :
    triangleSample p i = roundTie p.roundTie (triangleNum p i) p.n := by
  simp only [triangleSample, h, triangleNum]

/-- The triangle is a function of its numerator. -/
theorem triangleSample_congr {p : Params} {i j : Nat} (h : triangleNum p i = triangleNum p j) :
    triangleSample p i = triangleSample p j := by
  cases hq : p.triQuant with
  | floor => rw [triangleSample_floor hq, triangleSample_floor hq, h]
  | round => rw [triangleSample_round hq, triangleSample_round hq, h]

/-- A whole quotient is the sample. -/
theorem triangleSample_of_num_eq {p : Params} (hn : 0 < p.n) {i c : Nat} (h : triangleNum p i = c * p.n) :
    triangleSample p i = c := by
  cases hq : p.triQuant with
  | floor => rw [triangleSample_floor hq, h, Nat.mul_div_cancel _ hn]
  | round => rw [triangleSample_round hq, h, roundTie_mul _ _ hn]

/-- Within a cycle the triangle stays in 0..255 (R129). -/
theorem triangleSample_le {p : Params} (hn : 0 < p.n) {i : Nat} (hi : i < p.n) : triangleSample p i ≤ 255 := by
  have hnum : triangleNum p i ≤ 255 * p.n := by
    unfold triangleNum
    omega
  cases hq : p.triQuant with
  | floor => exact (triangleSample_floor hq i).trans_le (Nat.div_le_of_le_mul (by rwa [Nat.mul_comm]))
  | round => exact (triangleSample_round hq i).trans_le (roundTie_le _ hn hnum)

/-- Settles O58: the quantised quotient of `triangleNum`, whose value at 0, at `N / 2` and mirrored is computed. -/
theorem triangleFollowsFormula : Obligations.TriangleFollowsFormula := by
  intro p hlegal
  obtain ⟨hn, hn4, _⟩ := (Params.legal_iff p).1 hlegal
  refine ⟨fun i num _ hnum => ?_, triangleSample_of_num_eq hn ?_, triangleSample_of_num_eq hn ?_,
    fun i _ hi => triangleSample_congr ?_⟩
  · obtain rfl : num = triangleNum p i := by
      rw [Int.abs_eq_natAbs] at hnum
      exact Int.ofNat_inj.1 hnum
    refine ⟨fun hq => ?_, fun hq => ?_⟩
    · have hsample : tableSample p 1 i = triangleNum p i / p.n := triangleSample_floor hq i
      rw [hsample]
      exact ⟨Nat.mul_div_le _ _, Nat.lt_mul_div_succ _ hn⟩
    · have hsample : tableSample p 1 i = roundTie p.roundTie (triangleNum p i) p.n := triangleSample_round hq i
      rw [hsample]
      exact roundTie_isRounded _ _ hn
  all_goals
    unfold triangleNum
    omega

/-! ### The sawtooth, the staircase and the squares (R125, R127, R128) -/

/-- The step of an index is at most the last one, `K - 1` (R127). -/
theorem stair_index_le {p : Params} {i : Nat} (hi : i < p.n) : i / stairStep ≤ stairSteps p - 1 := by
  simp only [stairSteps, stairStep]
  omega

/-- With more than one step the staircase is the quotient of the step number. -/
theorem staircaseSample_of_steps {p : Params} (h : 2 ≤ stairSteps p) (i : Nat) :
    staircaseSample p i = 255 * (i / stairStep) / (stairSteps p - 1) := if_pos h

/-- With one step the staircase is 0. -/
theorem staircaseSample_of_one_step {p : Params} (h : stairSteps p < 2) (i : Nat) : staircaseSample p i = 0 :=
  if_neg (Nat.not_le.2 h)

/-- Within a cycle the staircase stays in 0..255 (R129). -/
theorem staircaseSample_le {p : Params} {i : Nat} (hi : i < p.n) : staircaseSample p i ≤ 255 := by
  unfold staircaseSample
  split
  · refine Nat.div_le_of_le_mul ?_
    rw [Nat.mul_comm]
    exact Nat.mul_le_mul_right 255 (stair_index_le hi)
  · exact Nat.zero_le 255

/-- On its last step the staircase is at 255. -/
theorem staircaseSample_last {p : Params} (hn : 20 < p.n) : staircaseSample p (p.n - 1) = 255 := by
  have hsteps : 2 ≤ stairSteps p ∧ (p.n - 1) / stairStep = stairSteps p - 1 := by
    simp only [stairSteps, stairStep]
    omega
  rw [staircaseSample_of_steps hsteps.1, hsteps.2, Nat.mul_div_cancel _ (by omega)]

/-- Shape `sel` from 4 on is the square at duty `10 * (sel - 3)` percent (R121). -/
theorem tableSample_square (p : Params) {sel : Nat} (h : 4 ≤ sel) (i : Nat) :
    tableSample p sel i = squareSample p (10 * (sel - 3)) i := by
  obtain ⟨k, rfl⟩ := Nat.exists_eq_add_of_le' h
  rfl

/-- A square has two levels (R128). -/
theorem squareSample_le (p : Params) (duty i : Nat) : squareSample p duty i ≤ 255 := by
  unfold squareSample
  split <;> omega

/-- Settles O59: each shape by its formula; the sawtooth's monotonicity is that of rounding. -/
theorem rampStairAndSquareFollowFormulas : Obligations.RampStairAndSquareFollowFormulas := by
  intro p hlegal
  obtain ⟨hn, _⟩ := (Params.legal_iff p).1 hlegal
  refine ⟨fun i _ => roundTie_isRounded _ _ hn, ?_, fun i j hij _ => roundTie_mono _ hn (by omega), ?_, ?_,
    staircaseSample_last, fun sel i hsel _ => ?_⟩
  · exact (congrArg (roundTie p.roundTie · p.n) (Nat.zero_mul p.n).symm).trans (roundTie_mul _ 0 hn)
  · rintro i _ _ rfl
    exact ⟨fun h => staircaseSample_of_steps h i, fun h => staircaseSample_of_one_step h i⟩
  · simp [tableSample, staircaseSample]
  · rw [tableSample_square p hsel]
    exact ⟨fun hhigh => if_pos hhigh, fun hlow => if_neg (Nat.not_lt.2 hlow)⟩

/-! ### Every sample is a byte (R120, R129) -/

/-- Within a cycle every sample is in 0..255. -/
theorem tableSample_le {p : Params} (hn : 0 < p.n) (sel : Nat) {i : Nat} (hi : i < p.n) :
    tableSample p sel i ≤ 255 := by
  match sel with
  | 0 => exact Nat.le_of_lt_succ (BitVec.isLt _)
  | 1 => exact triangleSample_le hn hi
  | 2 => exact roundTie_le _ hn (by omega)
  | 3 => exact staircaseSample_le hi
  | k + 4 => exact squareSample_le p _ i

/-- Settles O57: every sample is at most 255, and such a number is its own byte. -/
theorem samplesFitInByte : Obligations.SamplesFitInByte := by
  intro p sel i hlegal _ hi
  obtain ⟨hn, _⟩ := (Params.legal_iff p).1 hlegal
  have hle := tableSample_le hn sel hi
  refine ⟨hle, ?_⟩
  rw [tableByte, BitVec.toNat_ofNat]
  omega

end Sys2Proof.Machine

/-! ## The sine table against the real formula (spec/40_table_generator.md R123, R124) -/

namespace Sys2Proof.Machine

/-! ### The real sine between two of its partial sums -/

/-- The first `n` terms of the sine's power series, over the rationals or the reals. -/
def sinPartial {K : Type} [Field K] (n : ℕ) (x : K) : K :=
  ∑ k ∈ Finset.range n, (-1) ^ k * (x ^ (2 * k + 1) / ((2 * k + 1).factorial : K))

theorem sinPartial_cast (n : ℕ) (q : ℚ) : ((sinPartial n q : ℚ) : ℝ) = sinPartial n (q : ℝ) := by
  simp [sinPartial]

theorem sinPartial_five (x : ℚ) :
    sinPartial 5 x = x - x ^ 3 / 6 + x ^ 5 / 120 - x ^ 7 / 5040 + x ^ 9 / 362880 := by
  norm_num [sinPartial, Finset.sum_range_succ, Nat.factorial]
  ring

theorem sinPartial_six (x : ℚ) :
    sinPartial 6 x = x - x ^ 3 / 6 + x ^ 5 / 120 - x ^ 7 / 5040 + x ^ 9 / 362880 - x ^ 11 / 39916800 := by
  norm_num [sinPartial, Finset.sum_range_succ, Nat.factorial]
  ring

/-- Up to 2 the terms of the sine's series fall in absolute value. -/
theorem sin_terms_antitone {x : ℝ} (h0 : 0 ≤ x) (h2 : x ≤ 2) :
    Antitone fun k : ℕ => x ^ (2 * k + 1) / ((2 * k + 1).factorial : ℝ) := by
  refine antitone_nat_of_succ_le fun k => ?_
  have hk : (0 : ℝ) ≤ k := k.cast_nonneg
  have hfact : ((2 * k + 1 + 2).factorial : ℝ) = (2 * k + 3) * (2 * k + 2) * (2 * k + 1).factorial := by
    rw [Nat.factorial_succ, Nat.factorial_succ]
    push_cast
    ring
  have hsq : x ^ 2 ≤ (2 * k + 3) * (2 * k + 2) := by nlinarith
  rw [show 2 * (k + 1) + 1 = 2 * k + 1 + 2 by ring, pow_add, hfact, mul_comm (x ^ (2 * k + 1)),
    mul_div_mul_comm]
  exact mul_le_of_le_one_left (by positivity) (div_le_one_of_le₀ hsq (by positivity))

theorem sinPartial_tendsto (x : ℝ) :
    Filter.Tendsto (fun n => sinPartial n x) Filter.atTop (nhds (Real.sin x)) := by
  refine (Real.hasSum_sin x).tendsto_sum_nat.congr fun n => Finset.sum_congr rfl fun k _ => ?_
  rw [mul_div_assoc]

/-- Partial sums with an even number of terms are at most the sine. -/
theorem sinPartial_le_sin {x : ℝ} (h0 : 0 ≤ x) (h2 : x ≤ 2) (k : ℕ) : sinPartial (2 * k) x ≤ Real.sin x :=
  (sin_terms_antitone h0 h2).alternating_series_le_tendsto (sinPartial_tendsto x) k

/-- Partial sums with an odd number of terms are at least the sine. -/
theorem sin_le_sinPartial {x : ℝ} (h0 : 0 ≤ x) (h2 : x ≤ 2) (k : ℕ) : Real.sin x ≤ sinPartial (2 * k + 1) x :=
  (sin_terms_antitone h0 h2).tendsto_le_alternating_series (sinPartial_tendsto x) k

/-! ### The angle of a sample -/

/-- The angle of sample `i` (R123). -/
noncomputable def sineAngle (i : ℕ) : ℝ := 2 * Real.pi * ((i : ℝ) + 1 / 2) / 100

/-- A rational below the angle of sample `i`, by four decimals of `π`. -/
def sineAngleLow (i : ℕ) : ℚ := 3.1415 * (2 * i + 1) / 100

/-- A rational above the angle of sample `i`, by four decimals of `π`. -/
def sineAngleHigh (i : ℕ) : ℚ := 3.1416 * (2 * i + 1) / 100

theorem sineAngle_bounds (i : ℕ) : (sineAngleLow i : ℝ) ≤ sineAngle i ∧ sineAngle i ≤ (sineAngleHigh i : ℝ) := by
  have hangle : sineAngle i = Real.pi * (2 * i + 1) / 100 := by
    unfold sineAngle
    ring
  rw [hangle, sineAngleLow, sineAngleHigh]
  push_cast
  refine ⟨?_, ?_⟩
  · gcongr
    linarith [Real.pi_gt_d4]
  · gcongr
    linarith [Real.pi_lt_d4]

/-- In the first quarter the bounds of the angle stay within a quarter turn. -/
theorem sineAngle_quarter {i : ℕ} (hi : i < 25) :
    0 ≤ (sineAngleLow i : ℝ) ∧ (sineAngleHigh i : ℝ) ≤ Real.pi / 2 := by
  have hle : (i : ℝ) ≤ 24 := by exact_mod_cast Nat.le_of_lt_succ hi
  unfold sineAngleLow sineAngleHigh
  push_cast
  exact ⟨by positivity, by linarith [Real.pi_gt_d4]⟩

/-- In the first quarter the sine of the angle lies between partial sums at the bounds of the angle. -/
theorem sin_sineAngle_bounds {i : ℕ} (hi : i < 25) :
    ((sinPartial 6 (sineAngleLow i) : ℚ) : ℝ) ≤ Real.sin (sineAngle i) ∧
      Real.sin (sineAngle i) ≤ ((sinPartial 5 (sineAngleHigh i) : ℚ) : ℝ) := by
  obtain ⟨hlow, hhigh⟩ := sineAngle_bounds i
  obtain ⟨hzero, hquarter⟩ := sineAngle_quarter hi
  have hpi := Real.pi_lt_d4
  rw [sinPartial_cast, sinPartial_cast]
  refine ⟨(sinPartial_le_sin hzero (by linarith) 3).trans ?_, le_trans ?_ (sin_le_sinPartial ?_ ?_ 2)⟩
  · exact Real.sin_le_sin_of_le_of_le_pi_div_two (by linarith) (by linarith) hlow
  · exact Real.sin_le_sin_of_le_of_le_pi_div_two (by linarith) hquarter hhigh
  · linarith
  · linarith

/-! ### The first quarter of the literal, and the other three by symmetry -/

/-- Sample `i` of the literal of R124. -/
def sine100Sample (i : ℕ) : ℕ := (sine100.getD i 0#8).toNat

/-- At `N = 100` table 0 is the literal (R124). -/
theorem tableSample_sine {p : Params} (hn : p.n = 100) (i : ℕ) : tableSample p 0 i = sine100Sample i := by
  simp only [tableSample, sineSample, if_pos hn, sine100Sample]

/-- `x` is the integer nearest to the real formula at sample `i` (R123). -/
def NearestSine (i x : ℕ) : Prop := |(x : ℝ) - (128 + 127 * Real.sin (sineAngle i))| < 1 / 2

/-- The literal's first quarter against the partial sums, in rational arithmetic. -/
theorem sine100Sample_quarter {i : ℕ} (hi : i < 25) :
    (sine100Sample i : ℚ) - 1 / 2 < 128 + 127 * sinPartial 6 (sineAngleLow i) ∧
      128 + 127 * sinPartial 5 (sineAngleHigh i) < (sine100Sample i : ℚ) + 1 / 2 := by
  rw [sinPartial_six, sinPartial_five]
  interval_cases i <;>
    simp only [sine100Sample, sine100, sineAngleLow, sineAngleHigh, List.cons_append, List.getD_cons_zero,
      List.getD_cons_succ, BitVec.reduceToNat] <;>
    norm_num

theorem nearestSine_quarter {i : ℕ} (hi : i < 25) : NearestSine i (sine100Sample i) := by
  obtain ⟨hlow, hhigh⟩ := sin_sineAngle_bounds hi
  obtain ⟨hbelow, habove⟩ := sine100Sample_quarter hi
  rify at hbelow habove
  rw [NearestSine, abs_lt]
  constructor <;> linarith

/-- The sine is symmetric about a quarter turn. -/
theorem NearestSine.mirror {i j x : ℕ} (h : NearestSine i x) (hij : i + j = 49) : NearestSine j x := by
  have hangle : sineAngle j = Real.pi - sineAngle i := by
    obtain rfl : j = 49 - i := by omega
    rw [sineAngle, sineAngle, Nat.cast_sub (by omega)]
    push_cast
    ring
  rwa [NearestSine, hangle, Real.sin_pi_sub]

/-- The sine is antisymmetric about a half turn. -/
theorem NearestSine.opposite {i j x y : ℕ} (h : NearestSine i x) (hij : i + j = 99) (hxy : x + y = 256) :
    NearestSine j y := by
  have hangle : sineAngle j = 2 * Real.pi - sineAngle i := by
    obtain rfl : j = 99 - i := by omega
    rw [sineAngle, sineAngle, Nat.cast_sub (by omega)]
    push_cast
    ring
  have hy : (y : ℝ) = 256 - x := by
    rw [eq_sub_iff_add_eq']
    exact_mod_cast hxy
  rw [NearestSine, abs_lt] at h ⊢
  rw [hangle, Real.sin_two_pi_sub, hy]
  constructor <;> linarith

/-- The literal has the two symmetries of the sine. -/
theorem sine100Sample_symmetric : ∀ i < 50,
    sine100Sample (49 - i) = sine100Sample i ∧ sine100Sample i + sine100Sample (99 - i) = 256 := by decide

theorem nearestSine_half {i : ℕ} (hi : i < 50) : NearestSine i (sine100Sample i) := by
  rcases Nat.lt_or_ge i 25 with hquarter | hrest
  · exact nearestSine_quarter hquarter
  · have hmirror := (nearestSine_quarter (i := 49 - i) (by omega)).mirror (j := i) (by omega)
    rwa [(sine100Sample_symmetric i hi).1] at hmirror

/-- Every sample of the literal is the integer nearest to the real formula (R124). -/
theorem nearestSine_sine100Sample {i : ℕ} (hi : i < 100) : NearestSine i (sine100Sample i) := by
  rcases Nat.lt_or_ge i 50 with hhalf | hrest
  · exact nearestSine_half hhalf
  · have hsum := (sine100Sample_symmetric (99 - i) (by omega)).2
    rw [show 99 - (99 - i) = i by omega] at hsum
    exact (nearestSine_half (i := 99 - i) (by omega)).opposite (by omega) hsum

/-- Settles O60: the first quarter of the literal is enclosed by partial sums of the sine's series, and the literal has
the sine's symmetries. -/
theorem sineTableIsRoundedFormula : Obligations.SineTableIsRoundedFormula := by
  intro p i hn hi
  rw [tableSample_sine hn]
  exact nearestSine_sine100Sample hi

end Sys2Proof.Machine

/-! ## The commands of the Clock Rate Controller (spec/41_clock_rate.md R150 to R157) -/

namespace Sys2Proof.Machine

/-! ### The frequency (R154, R155) -/

/-- The 20-bit `FREQ` of a requested frequency, as an integer: the clamp of R153. -/
theorem freqOf_toNat_eq_clamp (v : Int) :
    ((freqOf v).toNat : Int) = if v < 20 then 20 else if 1000000 < v then 1000000 else v := by
  rw [freqOf_toNat, clampF_eq]

/-- Settles O11: the operand is the word's low 28 bits, and `freqOf` is the clamp. -/
theorem setfClampsFrequency : Obligations.SetfClampsFrequency :=
  ⟨fun w hm => decodeCmd_setf ((masked_formatF_iff w 3#4).1 hm),
    fun imm _ => ⟨_, rfl, freqOf_toNat_eq_clamp imm, rfl⟩⟩

/-- The target of `FDELTA` where the index has the multiplier `m` (R155). -/
theorem steppedFreq_of_mult {p : Params} {k : BitVec 3} {m : Nat} (hm : p.mult[k.toNat]? = some m) (freq : BitVec 20)
    (dir : Direction) (mag : Nat) : steppedFreq p freq k dir mag = match dir with
      | .up => (freq.toNat : Int) + mag * m
      | .down => (freq.toNat : Int) - mag * m := by
  have hmult : multOf p k.toNat = m := by rw [multOf, List.getD_eq_getElem?_getD, hm, Option.getD_some]
  cases dir <;> rw [steppedFreq, hmult]

/-- Settles O12: the target is `steppedFreq`, which `freqOf` clamps. -/
theorem fdeltaStepsFrequency : Obligations.FdeltaStepsFrequency := by
  refine ⟨fun w hm => ?_, fun dir mag m f s hmult hf => ?_⟩
  · obtain ⟨hop, hz⟩ := (masked_formatD_iff w 4#4).1 hm
    rw [decodeCmd_fdelta hop hz, magField_eq_mod]
    rfl
  · have htarget : steppedFreq s.params s.freq s.multIdx dir mag = f :=
      (steppedFreq_of_mult hmult s.freq dir mag).trans hf.symm
    refine ⟨_, rfl, ?_, rfl⟩
    rw [← htarget]
    exact freqOf_toNat_eq_clamp _

/-! ### The multiplier index (R156) -/

/-- Settles O13: the index is `steppedMult`, which fits its three bits. -/
theorem mdeltaStepsIndex : Obligations.MdeltaStepsIndex := by
  refine ⟨fun w hm => ?_, fun dir s hmax => ?_⟩
  · obtain ⟨hop, hz⟩ := (masked_formatM_iff w 5#4).1 hm
    exact decodeCmd_mdelta hop hz
  · exact ⟨_, rfl, steppedMult_toNat hmax s.multIdx dir, rfl⟩

/-! ### The divisor (R150 to R152, R157) -/

theorem divisorLegal_iff (p : Params) (d : Nat) : divisorLegal p d = true ↔ 1 ≤ d ∧ d ≤ p.divMax := by
  simp [divisorLegal]

theorem divisorLegal_eq_false_iff (p : Params) (d : Nat) : divisorLegal p d = false ↔ d < 1 ∨ p.divMax < d := by
  rw [Bool.eq_false_iff, ne_eq, divisorLegal_iff]
  omega

/-- `APPLYDIV` with a legal divisor writes it (R157). -/
theorem exec_applydiv_of_legal {s : State} (h : divisorLegal s.params s.wantedDivisor = true) :
    exec .applydiv s =
      .next { s with divReg := BitVec.ofNat 16 s.wantedDivisor, divValid := true }.finish := by
  simp only [exec, execApplydiv, State.applyDivisor_legal h]

/-- `APPLYDIV` with an illegal divisor is refused (R157, R262). -/
theorem exec_applydiv_of_illegal {s : State} (h : divisorLegal s.params s.wantedDivisor = false) :
    exec .applydiv s = .next (s.refuseCmd .divRange) := by
  simp only [exec, execApplydiv, State.applyDivisor_illegal h]

/-- Settles O14: the two clauses are the two answers of the Clock Rate Controller. -/
theorem applydivWritesDivisor : Obligations.ApplydivWritesDivisor := by
  refine ⟨rfl, ?_⟩
  rintro _ s rfl hmax
  have hlegal_iff := divisorLegal_iff s.params s.wantedDivisor
  have hillegal_iff := divisorLegal_eq_false_iff s.params s.wantedDivisor
  cases hlegal : divisorLegal s.params s.wantedDivisor with
  | true =>
    obtain ⟨_, hle⟩ := hlegal_iff.1 hlegal
    have hfits : (BitVec.ofNat 16 s.wantedDivisor).toNat = s.wantedDivisor := by
      rw [BitVec.toNat_ofNat]
      omega
    exact ⟨_, exec_applydiv_of_legal hlegal, fun _ => ⟨hfits, rfl⟩,
      fun hbad => (nomatch hlegal.symm.trans (hillegal_iff.2 hbad))⟩
  | false =>
    exact ⟨_, exec_applydiv_of_illegal hlegal, fun hgood => (nomatch hlegal.symm.trans (hlegal_iff.2 hgood)),
      fun _ => ⟨State.hasErr_refuseCmd s .divRange, rfl⟩⟩

/-- Settles O56: the bounds of the integer quotient `C div (F * N)` (R150). -/
theorem realisedFrequencyNotBelowTarget : Obligations.RealisedFrequencyNotBelowTarget := by
  intro c f n hf hn
  rw [computeDivisor, Nat.mul_left_comm f, Nat.mul_left_comm f]
  exact ⟨Nat.div_mul_le_self c (f * n), Nat.lt_mul_of_div_lt (Nat.lt_succ_self _) (Nat.mul_pos hf hn)⟩

end Sys2Proof.Machine

/-! ## The tick prescaler (spec/42_bit_streaming_unit.md R176) -/

namespace Sys2Proof.Machine

variable {s : State}

/-! ### One clock edge -/

/-- The BSU's move neither reads nor writes the prescaler and the agenda (R172). -/
theorem State.bsuMove_with_presc_agenda (s : State) (p : BitVec 16) (ms : List Move) :
    { s with presc := p, agenda := ms }.bsuMove = { s.bsuMove with presc := p, agenda := ms } := by
  have hsame : { s with presc := p, agenda := ms }.bsuEnabled = s.bsuEnabled := rfl
  rw [State.bsuMove, State.bsuMove, hsame]
  cases hen : s.bsuEnabled with
  | false => rfl
  | true =>
    rw [if_pos rfl, if_pos rfl]
    by_cases hcnt : s.osrCnt = 0#3
    · have hne : s.txq ≠ [] := fun hq => by simp [State.bsuEnabled, hcnt, hq] at hen
      obtain ⟨v, rest, hq⟩ := List.exists_cons_of_ne_nil hne
      rw [State.bsuTick_refills hcnt hq]
      exact State.bsuTick_refills (s := { s with presc := p, agenda := ms }) hcnt hq
    · rw [State.bsuTick_shifts hcnt]
      exact State.bsuTick_shifts (s := { s with presc := p, agenda := ms }) hcnt

/-- While the BSU is disabled the prescaler is frozen. -/
theorem State.clockEdge_of_disabled (hen : s.bsuEn = false) : s.clockEdge = s := by
  simp [State.clockEdge, hen]

/-- Above 1 the prescaler counts down. -/
theorem State.clockEdge_counts (hen : s.bsuEn = true) (h : 1 < s.presc.toNat) :
    s.clockEdge = { s with presc := s.presc - 1#16 } := by
  rw [State.clockEdge, if_pos hen, if_neg (Nat.not_le.2 h)]

/-- At 1 or 0 the edge is a tick: the BSU moves and the prescaler is reloaded with `DIV`. -/
theorem State.clockEdge_ticks (hen : s.bsuEn = true) (h : s.presc.toNat ≤ 1) :
    s.clockEdge = { s.bsuMove with presc := s.divReg } := by
  rw [State.clockEdge, if_pos hen, if_pos h]
  exact (s.bsuMove_with_presc_agenda s.divReg s.agenda).trans (by rw [← State.bsuMove_agenda s])

/-- Settles O33: the three cases of a clock edge. -/
theorem prescalerPacesTicks : Obligations.PrescalerPacesTicks := by
  refine fun s => ⟨fun hen => ?_, fun hen habove => ?_, fun hen hlow => ?_⟩
  · exact congrArg _ (State.clockEdge_of_disabled hen)
  · have hdown : (s.presc - 1#16).toNat = s.presc.toNat - 1 :=
      BitVec.toNat_sub_of_le (BitVec.le_def.2 habove.le)
    rw [runMove, State.clockEdge_counts hen habove]
    exact ⟨_, rfl, hdown, rfl⟩
  · exact ⟨_, rfl, congrArg _ (State.clockEdge_ticks hen hlow)⟩

/-! ### A run of clock edges -/

/-- With the bus outputs already idle a step changes only the agenda before its move. -/
theorem step_of_agenda_busIdle {m : Move} {rest : List Move} (hag : s.agenda = m :: rest) (hack : s.busAck = false)
    (herr : s.busErr = false) : step s = runMove m { s with agenda := rest } := by
  simp only [step_of_agenda hag, hack, herr]

/-- `s` with the prescaler at `k` and `m` clock edges to come. -/
def State.clockedAt (s : State) (k m : Nat) : State :=
  { s with presc := BitVec.ofNat 16 k, agenda := List.replicate m .clock }

/-- A state with the prescaler at `d` and `d` clock edges to come. -/
theorem State.clockedAt_self {d : Nat} (hpresc : s.presc.toNat = d) (hag : s.agenda = List.replicate d .clock) :
    s.clockedAt d d = s := by
  rw [State.clockedAt, ← hag, ← hpresc, BitVec.ofNat_toNat, BitVec.setWidth_eq]

/-- An edge between two ticks. -/
theorem State.clockEdge_clockedAt_counts (hen : s.bsuEn = true) {k : Nat} (hk : k + 2 < 2 ^ 16) (m : Nat) :
    (s.clockedAt (k + 2) m).clockEdge = s.clockedAt (k + 1) m := by
  have hpresc : (s.clockedAt (k + 2) m).presc.toNat = k + 2 := Nat.mod_eq_of_lt hk
  have hdown : (s.clockedAt (k + 2) m).presc - 1#16 = BitVec.ofNat 16 (k + 1) :=
    BitVec.ofNat_sub_ofNat_of_le _ _ (by omega) (by omega)
  rw [State.clockEdge_counts (s := s.clockedAt (k + 2) m) hen (by omega), hdown]
  rfl

/-- The edge at 1 is the tick. -/
theorem State.clockEdge_clockedAt_ticks (hen : s.bsuEn = true) :
    (s.clockedAt 1 0).clockEdge = { s.bsuMove with presc := s.divReg, agenda := [] } := by
  rw [State.clockEdge_ticks (s := s.clockedAt 1 0) hen (le_refl 1), State.clockedAt, State.bsuMove_with_presc_agenda]
  rfl

section BusIdle

variable (hack : s.busAck = false) (herr : s.busErr = false)
include hack herr

theorem step_clockedAt (k m : Nat) : step (s.clockedAt k (m + 1)) = .next (s.clockedAt k m).clockEdge :=
  step_of_agenda_busIdle (s := s.clockedAt k (m + 1)) rfl hack herr

/-- From `k + 1`, `k` edges take the prescaler to 1 and change nothing else. -/
theorem runSteps_clockedAt (hen : s.bsuEn = true) {k : Nat} (hk : k + 1 < 2 ^ 16) (m : Nat) :
    runSteps k (s.clockedAt (k + 1) (k + m)) = .next (s.clockedAt 1 m) := by
  induction k with
  | zero => rw [Nat.zero_add, Nat.zero_add, runSteps_zero]
  | succ k ih =>
    have hstep : step (s.clockedAt (k + 2) (k + 1 + m)) = .next (s.clockedAt (k + 1) (k + m)) := by
      rw [Nat.add_right_comm k 1 m, step_clockedAt hack herr, State.clockEdge_clockedAt_counts hen hk]
    rw [runSteps_succ hstep, ih (by omega)]

end BusIdle

/-- Settles O34: the prescaler starts at `DIV` and counts to 1, where the next edge is a tick. -/
theorem ticksAreDivisorApart : Obligations.TicksAreDivisorApart := by
  intro s d hen hd hdiv hpresc hag hack herr
  obtain ⟨k, rfl⟩ := Nat.exists_eq_add_of_le' hd
  have hcount : runSteps k s = .next (s.clockedAt 1 1) := by
    rw [← runSteps_clockedAt hack herr hen (hdiv ▸ s.divReg.isLt) 1, State.clockedAt_self (hpresc ▸ hdiv) hag]
  have htick : step (s.clockedAt 1 1) = .next { s.bsuMove with presc := s.divReg, agenda := [] } := by
    rw [step_clockedAt hack herr, State.clockEdge_clockedAt_ticks hen]
  exact ⟨_, _, hcount, rfl, rfl, (runSteps_add hcount).trans (runSteps_succ htick)⟩

end Sys2Proof.Machine

/-! ## The Bit-Streaming Unit's commands and its tick (spec/42_bit_streaming_unit.md R172 to R178) -/

namespace Sys2Proof.Machine

/-- Settles O15: both words decode, and both commands are one assignment to `BSU_EN` and the end of the command. -/
theorem quiesceAndResumeSetConsumption : Obligations.QuiesceAndResumeSetConsumption :=
  ⟨⟨by decide, fun _ => rfl⟩, by decide, fun _ => rfl⟩

variable {s : State}

/-- The tick is enabled when the BSU is and there is a byte to present (R172, R173). -/
theorem State.bsuEnabled_iff : s.bsuEnabled = true ↔ s.bsuEn = true ∧ (s.osrCnt ≠ 0#3 ∨ s.txq ≠ []) := by
  simp [State.bsuEnabled]

theorem State.bsuMove_of_enabled (h : s.bsuEnabled = true) : s.bsuMove = s.bsuTick := if_pos h

theorem State.bsuMove_of_not_enabled (h : ¬ s.bsuEnabled = true) : s.bsuMove = s := if_neg h

/-- Settles O32: the enabled tick with and without a refill, and the BSU's move where the tick is not enabled. -/
theorem tickPresentsNextByteOrHolds : Obligations.TickPresentsNextByteOrHolds := by
  refine ⟨fun s hen => ⟨fun v rest hcnt hq => ?_, fun hcnt => ?_⟩, fun s hstall => ?_⟩
  · have henabled : s.bsuEnabled = true := State.bsuEnabled_iff.2 ⟨hen, .inr (by simp [hq])⟩
    rw [runMove, State.bsuMove_of_enabled henabled, State.bsuTick_refills hcnt hq]
  · have henabled : s.bsuEnabled = true := State.bsuEnabled_iff.2 ⟨hen, .inl hcnt⟩
    rw [runMove, State.bsuMove_of_enabled henabled, State.bsuTick_shifts hcnt]
  · have hnot : ¬ s.bsuEnabled = true := fun h => by
      obtain ⟨hen, hbyte⟩ := State.bsuEnabled_iff.1 h
      rcases hstall with hoff | ⟨hcnt, hq⟩
      · simp [hoff] at hen
      · simp [hcnt, hq] at hbyte
    rw [runMove, State.bsuMove_of_not_enabled hnot]

end Sys2Proof.Machine

/-! ## The output of whole runs (spec/42_bit_streaming_unit.md R179, spec/43_transfer_engine.md R206) -/

namespace Sys2Proof.Machine

variable {s t : State}

/-- The moves to come are read by no part of the invariant. -/
theorem BlockInvariant.with_agenda (h : BlockInvariant s) (ms : List Move) :
    BlockInvariant { s with agenda := ms } :=
  DataInvariant.block (h.data.of_registers { h.registers with } rfl) { h.sequencer with }

/-- The invariant holds along every run from a state that meets it. -/
theorem BlockInvariant.of_runSteps {k : Nat} (h : BlockInvariant s) (hrun : runSteps k s = .next t) :
    BlockInvariant t := by
  induction k generalizing s with
  | zero => cases hrun; exact h
  | succ k ih =>
    obtain ⟨u, hstep, hrest⟩ := runSteps_succ_inv hrun
    exact ih (everyStepKeepsBlockInvariant s u h hstep) hrest

/-- What is pushed and not yet presented: the bytes left in `osr`, then four for each word of the queue (R179). -/
theorem StreamOrdered.exists_in_flight (h : StreamOrdered s) (hcnt : s.osrCnt.toNat ≤ 4) :
    ∃ rest, bytesOf s.pushTrace = s.outTrace ++ rest ∧ rest.length = s.osrCnt.toNat + 4 * s.txq.length := by
  refine ⟨(unpack4 s.osr).take s.osrCnt.toNat ++ bytesOf s.txq, by rw [← List.append_assoc]; exact h, ?_⟩
  rw [List.length_append, List.length_take, unpack4_length, bytesOf_length, Nat.min_eq_left hcnt]

/-- Settles O49: the invariant holds at reset and along the schedule, and it names what is in flight. -/
theorem outputIsPushedBytesInOrder : Obligations.OutputIsPushedBytesInOrder := by
  intro p ms t hlegal hrun
  have hinv : BlockInvariant t := ((ofParams_blockInvariant hlegal).with_agenda ms).of_runSteps hrun
  exact hinv.stream.exists_in_flight (hinv.registers.osrCnt_range.trans (by decide))

/-- Settles O51: every word pushed before the run is of the table, so the block streams it from push number 0 on. -/
theorem outputRepeatsTable : Obligations.OutputRepeatsTable := by
  intro s t sel ms hinv hstarted hidle hsel hagenda hauto hpushed hrun j hj
  have hstart : StreamsTable s.params sel 0 s :=
    ⟨hinv.data, rfl, hstarted, hidle, hsel, fun k _ hk => hpushed k hk⟩
  have hend := hstart.of_runSteps hagenda hauto hrun
  exact hend.outTrace_getElem? (Nat.zero_le j) hj

end Sys2Proof.Machine

/-! ## The clocked stream is gapless (spec/70_reset_and_hazards.md R305)

The DMA stage comes before the clock edge in a cycle. While Channel A is in its run that stage leaves a word in the
queue; in the one cycle of Channel B the queue may be empty, and `QueueReady` says that `osr` is not. -/

namespace Sys2Proof.Machine

variable {s t : State}

/-! ### The DMA stage -/

@[simp] theorem State.chanMove_osrCnt (s : State) (x : Chan) : (s.chanMove x).osrCnt = s.osrCnt := by
  obtain ⟨_, _, _, _, _, h⟩ := s.chanMove_frame x
  rw [h]

@[simp] theorem State.chanMove_outTrace (s : State) (x : Chan) : (s.chanMove x).outTrace = s.outTrace := by
  obtain ⟨_, _, _, _, _, h⟩ := s.chanMove_frame x
  rw [h]

@[simp] theorem State.chanMove_pins (s : State) (x : Chan) : (s.chanMove x).pins = s.pins := by
  obtain ⟨_, _, _, _, _, h⟩ := s.chanMove_frame x
  rw [h]

/-- With Channel B dormant the DMA master is Channel A's. -/
theorem State.dmaMove_of_b_dormant (hb : s.chB.ctrl.busy = false) : s.dmaMove = s.chanMove .a := by
  simp [State.dmaMove, State.dmaChannel, State.chanReady, State.chanEmptyReady, hb]

/-- In Channel B's run the DMA master is Channel B's (R201). -/
theorem EngineRunning.dmaMove_of_bRunning (h : EngineRunning s) (hb : s.bRunning) : s.dmaMove = s.chanMove .b := by
  obtain ⟨_, hctrl⟩ := h.ctrl_fields
  obtain ⟨_, hbusy, _, hcount⟩ := hb
  rw [hbusy] at hctrl
  have hready : s.chanReady .b = true := by simp [State.chanReady, State.paceOk, hctrl, hcount]
  rw [State.dmaMove, State.dmaChannel, hready, Bool.true_or, if_pos rfl]

/-- In Channel A's run its move leaves a word in the queue: the one it pushes, or those of a full queue (R191, R192). -/
theorem EngineRunning.chanMove_a_txq_ne_nil (h : EngineRunning s) (hq : 1 ≤ s.params.qdepth) (ha : s.aRunning) :
    (s.chanMove .a).txq ≠ [] := by
  by_cases hroom : s.txq.length < s.params.qdepth
  · obtain ⟨hword, hlast⟩ := h.chanMove_a ha hroom rfl
    by_cases h1 : s.chA.transCount = 1#32
    · simp [hlast h1]
    · simp [hword h1]
  · obtain ⟨hctrl, _⟩ := h.ctrl_fields
    obtain ⟨_, _, hpos, _⟩ := ha
    have hne : s.chA.transCount ≠ 0#32 := fun h0 => by simp [h0] at hpos
    rw [State.chanMove_full (x := .a) (by rw [State.chan_a, hctrl]) hne (by omega)]
    exact List.ne_nil_of_length_pos (by omega)

/-- The DMA stage of a started block leaves a word in the queue, or it is Channel B's step, which ends Channel B's run
and does not touch the queue. -/
theorem DataInvariant.dmaMove_cases (h : DataInvariant s) (hst : s.started = true) :
    s.dmaMove.txq ≠ [] ∨
      (s.chB.ctrl.busy = true ∧ s.dmaMove.chB.ctrl.busy = false ∧ s.dmaMove.txq = s.txq) := by
  have hrun := h.engine.1 hst
  obtain ⟨_, _, _, hq, _⟩ := (Params.legal_iff s.params).1 h.registers.params_legal
  rcases hrun.one_busy with ha | hb
  · obtain ⟨_, hdormant, _⟩ := id ha
    rw [State.dmaMove_of_b_dormant hdormant]
    exact .inl (hrun.chanMove_a_txq_ne_nil hq ha)
  · obtain ⟨_, hbusy, _⟩ := id hb
    rw [hrun.dmaMove_of_bRunning hb, hrun.chanMove_b hb]
    exact .inr ⟨hbusy, rfl, rfl⟩

/-! ### The clock edge -/

/-- An enabled tick presents a byte (R172). -/
theorem State.bsuMove_presents (h : s.bsuEnabled = true) : s.bsuMove.outTrace = s.outTrace ++ [s.bsuMove.pins] := by
  rw [State.bsuMove_of_enabled h]
  simp [State.bsuTick]

/-- The BSU takes a word off the queue only by a refill, after which three bytes are left in `osr` (R172). -/
theorem State.bsuMove_txq_cases (s : State) : s.bsuMove.txq = s.txq ∨ s.bsuMove.osrCnt = 3#3 := by
  by_cases hen : s.bsuEnabled = true
  · rw [State.bsuMove_of_enabled hen]
    by_cases hcnt : s.osrCnt = 0#3
    · obtain ⟨_, hbyte⟩ := State.bsuEnabled_iff.1 hen
      obtain ⟨v, rest, hq⟩ := List.exists_cons_of_ne_nil (hbyte.resolve_left (absurd hcnt))
      exact .inr (by rw [State.bsuTick_refills hcnt hq])
    · exact .inl (by rw [State.bsuTick_shifts hcnt])
  · exact .inl (by rw [State.bsuMove_of_not_enabled hen])

/-- A clock edge that empties the queue leaves bytes in `osr`. -/
theorem State.clockEdge_osrCnt_ne_zero (hq : s.txq ≠ []) (hempty : s.clockEdge.txq = []) :
    s.clockEdge.osrCnt ≠ 0#3 := by
  cases hen : s.bsuEn with
  | false =>
    rw [State.clockEdge_of_disabled hen] at hempty
    exact absurd hempty hq
  | true =>
    by_cases hlow : s.presc.toNat ≤ 1
    · rw [State.clockEdge_ticks hen hlow] at hempty ⊢
      rcases s.bsuMove_txq_cases with hsame | hrefilled
      · exact absurd (hsame.symm.trans hempty) hq
      · simp [hrefilled]
    · rw [State.clockEdge_counts hen (Nat.not_le.1 hlow)] at hempty
      exact absurd hempty hq

/-! ### A cycle -/

/-- The first two stages of a cycle keep the data parts of the invariant. -/
theorem cycleFront_keeps_data {x : Option BusTxn} (h : BlockInvariant s) (hm : cycleFront x s = .next t) :
    DataInvariant t := by
  unfold cycleFront at hm
  split at hm
  next s1 h1 =>
    have hhost : BlockInvariant s1 := by
      cases x with
      | none => cases h1; exact h
      | some txn => exact runMove_keeps_blockInvariant (m := .host txn) h h1
    split at hm
    · cases hm; exact hhost.data
    · exact seqClocked_keeps_data hhost hm
  next => cases hm
  next => cases hm

/-- No command makes the queue unready: a `START` sets off Channel A, not Channel B (R199). -/
theorem QueueReady.of_commandFrame (h : QueueReady s) (hf : CommandFrame s t) : QueueReady t := by
  intro hst hq hb
  rw [hf.osrCnt]
  rcases hf.engine with ⟨_, hB, hs⟩ | ⟨_, _, _, hdormant⟩
  · exact h (hs ▸ hst) (hf.txq ▸ hq) (hB ▸ hb)
  · simp [hdormant] at hb

/-- The DMA stage of a started block with a ready queue leaves a byte to present. -/
theorem DataInvariant.dmaMove_has_byte (h : DataInvariant s) (hready : QueueReady s) (hst : s.started = true) :
    s.dmaMove.osrCnt ≠ 0#3 ∨ s.dmaMove.txq ≠ [] := by
  rcases h.dmaMove_cases hst with hne | ⟨hb, _, hsame⟩
  · exact .inr hne
  · rw [hsame, State.dmaMove, State.chanMove_osrCnt]
    by_cases hq : s.txq = []
    · exact .inl (hready hst hq hb)
    · exact .inr hq

/-- After the last two stages of a cycle the queue is ready again. -/
theorem DataInvariant.cycleBack_queueReady (h : DataInvariant s) : QueueReady s.dmaMove.clockEdge := by
  intro hst hq hb
  have hst' : s.started = true := by simpa [State.dmaMove] using hst
  rcases h.dmaMove_cases hst' with hne | ⟨_, hdormant, _⟩
  · exact State.clockEdge_osrCnt_ne_zero hne hq
  · simp [hdormant] at hb

/-- Settles O55: whatever the host and the sequencer do, the DMA stage has a byte ready for the edge, which is a tick or
a count, and no edge leaves the queue unready. -/
theorem clockedStreamIsGapless : Obligations.ClockedStreamIsGapless := by
  refine ⟨fun p => nofun, fun s t x hinv hready hmove => ?_⟩
  obtain ⟨_, s2, _, h2, _, _, rfl⟩ := cycleMove_cases hmove
  have hf := cycleFront_frame h2
  have hdata := cycleFront_keeps_data hinv h2
  have hpresc : s2.dmaMove.presc = s.presc := by simp [State.dmaMove, hf.presc]
  have hout : s2.dmaMove.outTrace = s.outTrace := by simp [State.dmaMove, hf.outTrace]
  have hpins : s2.dmaMove.pins = s.pins := by simp [State.dmaMove, hf.pins]
  rw [State.clockEdge_bsuEn, ← hpresc, ← hout, ← hpins]
  refine ⟨hdata.cycleBack_queueReady, fun hen hlow => ?_, fun hen habove => ?_⟩
  · have hst : s2.started = true := hdata.registers.bsu_started (by simpa [State.dmaMove] using hen)
    have hbyte := hdata.dmaMove_has_byte (hready.of_commandFrame hf) hst
    rw [State.clockEdge_ticks hen hlow]
    exact ⟨by rw [State.bsuMove_frame], State.bsuMove_presents (State.bsuEnabled_iff.2 ⟨hen, hbyte⟩)⟩
  · rw [State.clockEdge_counts hen habove]
    exact ⟨BitVec.toNat_sub_of_le (BitVec.le_def.2 habove.le), rfl, rfl⟩

end Sys2Proof.Machine

/-! ## The Transfer Engine (spec/43_transfer_engine.md R191 to R206): `START` and the channels' moves -/

namespace Sys2Proof.Machine

variable {s : State}

/-! ### `START` (R199) -/

/-- After its checks `START` is refused exactly when a check fails now or a configuration error was recorded before
(R199, R275). -/
theorem State.hasConfigErr_startChecks (s : State) : s.startChecks.hasConfigErr = true ↔
    s.shapeSel = noShape ∨ s.divValid = false ∨ s.hasErr .divRange = true ∨ s.hasErr .noTable = true ∨
      s.hasErr .noDiv = true := by
  simp only [State.hasConfigErr, State.hasErr_startChecks, Bool.or_eq_true, decide_eq_true_eq, reduceCtorEq,
    false_and, true_and, or_false, decide_false, Bool.false_eq_true]
  tauto

/-- With a table selected and a valid divisor the checks of `START` raise nothing (R199). -/
theorem State.startChecks_of_met (hsel : s.shapeSel ≠ noShape) (hdiv : s.divValid = true) : s.startChecks = s := by
  rw [State.startChecks, if_neg hsel, if_pos hdiv]

/-- A second `START` is refused (R199, R263). -/
theorem exec_start_of_started (hst : s.started = true) : exec .start s = .next (s.refuseCmd .restart) := if_pos hst

/-- A `START` whose checks leave a configuration error completes with the flags they raised (R199). -/
theorem exec_start_of_configErr (hst : s.started = false) (herr : s.startChecks.hasConfigErr = true) :
    exec .start s = .next s.startChecks.finish := by
  rw [exec, execStart, if_neg (by simp [hst]), if_pos herr]

/-- A `START` without a configuration error configures the engine (R199). -/
theorem exec_start_of_ready (hst : s.started = false) (herr : ¬ s.startChecks.hasConfigErr = true) :
    exec .start s = .next s.startChecks.startEngine.finish := by
  rw [exec, execStart, if_neg (by simp [hst]), if_neg herr]

/-- Settles O24: the checks raise nothing, and what `State.startEngine` assigns, it stores only in `LIT`. -/
theorem startConfiguresEngine : Obligations.StartConfiguresEngine := by
  refine ⟨by decide, fun s hst hsel hdiv hrange htable hnodiv => ?_⟩
  have hchecks : ¬ s.startChecks.hasConfigErr = true := by
    rw [State.hasConfigErr_startChecks]
    simp [noShape, hsel, hdiv, hrange, htable, hnodiv]
  have hexec := exec_start_of_ready hst hchecks
  rw [State.startChecks_of_met hsel hdiv] at hexec
  obtain ⟨_, _, hctrlA, _⟩ := controlAndPackedWordLayout
  exact ⟨_, hexec, s.wordAt_putWord_same litAddr _, fun a ha => s.byteAt_putWord_outside litAddr a _ ha,
    rfl, rfl, rfl, rfl, (hctrlA s.params).2, rfl, rfl⟩

/-- Settles O25: `E_RESTART` refuses before the other checks, which raise their flags together. -/
theorem startRefusedOnlyRaisesFlags : Obligations.StartRefusedOnlyRaisesFlags := by
  refine fun s => ⟨fun hst => ?_, fun hst hbad => ?_⟩
  · exact ⟨_, exec_start_of_started hst, State.hasErr_refuseCmd s .restart, rfl⟩
  · refine ⟨_, exec_start_of_configErr hst (s.hasConfigErr_startChecks.2 hbad), s.hasErr_startChecks, ?_⟩
    rw [State.startChecks_frame]
    rfl

/-! ### Channel A's transfer (R192, R197) -/

/-- The count and the address of Channel A after one transfer of its run, with `w` the word it transfers (R202). -/
theorem EngineRunning.advance_a (h : EngineRunning s) (hlegal : s.params.legal = true) (ha : s.aRunning) {w : Nat}
    (hw : w = s.params.words - s.chA.transCount.toNat) :
    (s.chA.transCount - 1#32).toNat + 1 = s.chA.transCount.toNat ∧
      (s.chA.readAddr + 4#32).toNat = activeBase + 4 * (w + 1) := by
  obtain ⟨_, hwords, _⟩ := Params.words_of_legal hlegal
  obtain ⟨_, _, hcount, _⟩ := ha
  constructor
  · rw [BitVec.toNat_sub_of_le (show 1#32 ≤ s.chA.transCount from hcount)]
    exact Nat.sub_add_cancel hcount
  · rw [BitVec.toNat_add, h.a_read, ← hw]
    simp only [BitVec.toNat_ofNat, activeBase]
    omega

/-- Channel A transfers word `w` of `W`; it is the last word of the lap exactly when one transfer is left (R195). -/
theorem EngineRunning.last_word_iff (h : EngineRunning s) (ha : s.aRunning) {w : Nat}
    (hw : w = s.params.words - s.chA.transCount.toNat) : w + 1 = s.params.words ↔ s.chA.transCount = 1#32 := by
  have hle := h.a_count
  obtain ⟨_, _, hcount, _⟩ := ha
  rw [← BitVec.toNat_inj, BitVec.toNat_ofNat]
  omega

/-- Settles O35: both forms of Channel A's transfer push the word and advance, and the count tells which one it is. -/
theorem channelAPushesNextWord : Obligations.ChannelAPushesNextWord := by
  intro s w hlegal hrun ha hroom hw
  obtain ⟨hcount, hread⟩ := hrun.advance_a hlegal ha hw
  have hlast := hrun.last_word_iff ha hw
  obtain ⟨hword, hend⟩ := hrun.chanMove_a ha hroom rfl
  rw [← hw] at hword hend
  refine ⟨s.chanMove .a, rfl, ?_⟩
  by_cases h1 : s.chA.transCount = 1#32
  · have hB : ({ s.chB.ctrl with en := true, busy := true } : Ctrl) = { s.chB.ctrl with busy := true } := by
      rw [hrun.ctrl_fields.2]
    rw [hend h1, hrun.b_reload, hB]
    exact ⟨rfl, rfl, hread, by rw [h1]; rfl, fun hlt => absurd (hlast.2 h1) hlt.ne, fun _ => rfl⟩
  · rw [hword h1]
    exact ⟨rfl, rfl, hread, hcount, fun _ => rfl, fun heq => absurd (hlast.1 heq) h1⟩

/-- Settles O50: a channel's move pushes nothing, or the word of the lap's position. -/
theorem pushCarriesActiveWord : Obligations.PushCarriesActiveWord := by
  intro s t hinv hmove hpush
  obtain rfl : s.chanMove .a = t := by injection hmove
  exact (hinv.data.chanMove_pushTrace .a).resolve_left hpush

/-! ### Channel B's rearm (R198, R200) -/

/-- Settles O36: Channel B's transfer writes the table base, and completing its run triggers Channel A. -/
theorem channelBRearmsChannelA : Obligations.ChannelBRearmsChannelA := by
  intro s hrun hb
  rw [runMove, hrun.chanMove_b hb, hrun.a_reload]
  rfl

/-! ### Moves without a transfer (R191, R196, R203) -/

/-- A channel that is disabled or not busy has no enabled step (R191, R203). -/
theorem State.chanMove_of_no_run {x : Chan} (h : (s.chan x).ctrl.en = false ∨ (s.chan x).ctrl.busy = false) :
    s.chanMove x = s := by
  rcases h with hen | hbusy
  · exact State.chanMove_idle (by simp [State.chanReady, hen]) (by simp [State.chanEmptyReady, hen])
  · exact State.chanMove_dormant hbusy

/-- Settles O37: neither step of the channel is enabled. -/
theorem channelWaitsWithoutEffect : Obligations.ChannelWaitsWithoutEffect := by
  refine fun s => ⟨fun h => ?_, fun h => ?_, fun hpace hcount hfull => ?_⟩
  · rw [runMove, State.chanMove_of_no_run (x := .a) h]
  · rw [runMove, State.chanMove_of_no_run (x := .b) h]
  · rw [runMove, State.chanMove_full (x := .a) hpace hcount hfull]

/-- A channel in a run with count 0 has only the step `chan_empty` enabled (R196). -/
theorem State.chanMove_of_empty {x : Chan} (hen : (s.chan x).ctrl.en = true) (hbusy : (s.chan x).ctrl.busy = true)
    (hcount : (s.chan x).transCount = 0#32) : s.chanMove x = s.completeRun x := by
  simp [State.chanMove, State.chanReady, State.chanEmptyReady, State.chanEmpty, hen, hbusy, hcount]

/-- An unchained channel ends its run and nothing else happens (R195). -/
theorem State.completeRun_of_not_chained {x : Chan} (h : (s.chan x).ctrl.chainEn = false) :
    s.completeRun x = s.setChan x { s.chan x with ctrl := { (s.chan x).ctrl with busy := false } } := by
  simp [State.completeRun, h]

/-- A chained channel ends its run and triggers the other one (R195). -/
theorem State.completeRun_of_chained {x : Chan} (h : (s.chan x).ctrl.chainEn = true) :
    s.completeRun x =
      (s.setChan x { s.chan x with ctrl := { (s.chan x).ctrl with busy := false } }).trigger x.other := by
  simp [State.completeRun, h]

/-- Settles O38: `chan_empty` is the end of the run, without the transfer before it. -/
theorem zeroCountChannelOnlyChains : Obligations.ZeroCountChannelOnlyChains := by
  refine fun s => ⟨fun hen hbusy hcount => ?_, fun hen hbusy hcount => ?_⟩
  · have hmove : runMove .cha s = .next (s.completeRun .a) :=
      congrArg Host.Outcome.next (State.chanMove_of_empty (x := .a) hen hbusy hcount)
    exact ⟨_, hmove, State.completeRun_of_not_chained (x := .a), State.completeRun_of_chained (x := .a)⟩
  · have hmove : runMove .chb s = .next (s.completeRun .b) :=
      congrArg Host.Outcome.next (State.chanMove_of_empty (x := .b) hen hbusy hcount)
    exact ⟨_, hmove, State.completeRun_of_not_chained (x := .b), State.completeRun_of_chained (x := .b)⟩

end Sys2Proof.Machine

/-! ## The command `WAVE` (spec/44_swap_arbiter.md R221 to R227)

Each step of the command is an equation; the swap is then followed along any schedule by `SwapInProgress`, which every
agent's step keeps while the steps of the sequencer count it down. -/

namespace Sys2Proof.Machine

variable {s t : State} {sel : Nat}

/-! ### The step a phase names (R224) -/

/-- In `EXEC` `WAVE` makes its checks. -/
theorem exec_wave_of_exec (hp : s.seqPhase = .exec) (sel : Nat) : exec (.wave sel) s = waveBegin sel s := by
  simp only [exec, execWave, hp]

/-- The quiesce stops consumption and puts the copy at word 0 (R221). -/
theorem exec_wave_of_wvQuiesce (hp : s.seqPhase = .wvQuiesce) (sel : Nat) :
    exec (.wave sel) s = .next { s with bsuEn := false, seqIdx := 0#9, seqPhase := .wvCopy } := by
  simp only [exec, execWave, hp]
  rfl

/-- The resume enables consumption as `STARTED` says and completes the command (R223). -/
theorem exec_wave_of_wvResume (hp : s.seqPhase = .wvResume) (sel : Nat) :
    exec (.wave sel) s = .next { s with bsuEn := s.started, cmdBusy := false, seqPhase := .idle } := by
  simp only [exec, execWave, hp]
  rfl

/-! ### Step 0 (R224, R273) -/

/-- A word that matches the row of `WAVE` (R94). -/
theorem decodeCmd_of_wave_mask {w : Word} (hm : w &&& 0xFFFFFFF0#32 = 0x90000000#32) :
    decodeCmd w = .ok (.wave (shapeField w)) :=
  have ⟨hop, hz⟩ := (masked_formatS_iff w 9#4).1 hm
  decodeCmd_wave hop hz

/-- A shape without a table is refused before the divisor is looked at (R273). -/
theorem waveBegin_of_no_table (h : 12 < sel ∨ s.generated sel = false) :
    waveBegin sel s = .next (s.refuseCmd .illegalCmd) := if_pos h

/-- With its table generated, a swap whose divisor is out of range is refused (R262). -/
theorem waveBegin_of_illegal_divisor (hsel : sel ≤ 12) (hgen : s.generated sel = true)
    (hd : divisorLegal s.params s.wantedDivisor = false) : waveBegin sel s = .next (s.refuseCmd .divRange) := by
  rw [waveBegin, if_neg (by simp [hsel, hgen]), State.applyDivisor_illegal hd]

/-- A legal swap re-applies the divisor and goes on to the quiesce. -/
theorem waveBegin_of_legal (hsel : sel ≤ 12) (hgen : s.generated sel = true)
    (hd : divisorLegal s.params s.wantedDivisor = true) :
    waveBegin sel s = .next { s with
      divReg := BitVec.ofNat 16 s.wantedDivisor, divValid := true, seqPhase := .wvQuiesce } := by
  rw [waveBegin, if_neg (by simp [hsel, hgen]), State.applyDivisor_legal hd]

/-- A legal divisor fits `DIV` (R28). -/
theorem toNat_ofNat_of_divisorLegal {p : Params} {d : Nat} (hd : divisorLegal p d = true) (hmax : p.divMax ≤ 65535) :
    (BitVec.ofNat 16 d).toNat = d := by
  obtain ⟨_, hle⟩ := (divisorLegal_iff p d).1 hd
  rw [BitVec.toNat_ofNat]
  omega

/-- Settles O21: the shape check decides first, then the divisor's. -/
theorem waveChecksThenAppliesDivisor : Obligations.WaveChecksThenAppliesDivisor := by
  refine ⟨fun w hm => by rw [decodeCmd_of_wave_mask hm, shapeField_eq_mod], ?_⟩
  rintro sel _ s hp rfl hmax
  have hlegal_iff := divisorLegal_iff s.params s.wantedDivisor
  have hillegal_iff := divisorLegal_eq_false_iff s.params s.wantedDivisor
  rw [exec_wave_of_exec hp]
  by_cases hbad : 12 < sel ∨ s.generated sel = false
  · have hnot (hsel : sel ≤ 12) (hgen : s.generated sel = true) : False := by
      rcases hbad with hgt | hng
      · exact absurd hgt (Nat.not_lt.2 hsel)
      · exact nomatch hng.symm.trans hgen
    exact ⟨_, waveBegin_of_no_table hbad, fun _ => ⟨State.hasErr_refuseCmd s .illegalCmd, rfl⟩,
      fun hsel hgen => (hnot hsel hgen).elim, fun hsel hgen => (hnot hsel hgen).elim⟩
  · obtain ⟨hsel, hgen⟩ : sel ≤ 12 ∧ s.generated sel = true := by simpa using hbad
    cases hd : divisorLegal s.params s.wantedDivisor with
    | false =>
      exact ⟨_, waveBegin_of_illegal_divisor hsel hgen hd, fun hno => absurd hno hbad,
        fun _ _ _ => ⟨State.hasErr_refuseCmd s .divRange, rfl⟩,
        fun _ _ hlow hhigh => nomatch hd.symm.trans (hlegal_iff.2 ⟨hlow, hhigh⟩)⟩
    | true =>
      exact ⟨_, waveBegin_of_legal hsel hgen hd, fun hno => absurd hno hbad,
        fun _ _ hout => (nomatch hd.symm.trans (hillegal_iff.2 hout)),
        fun _ _ _ _ => ⟨toNat_ofNat_of_divisorLegal hd hmax, rfl⟩⟩

/-! ### The copy (R222) -/

/-- The store of a copy step: word `seq_idx` of the shape's slot into `ACTIVE`. -/
def State.copyWord (s : State) (sel : Nat) : State :=
  s.putWord (activeBase + 4 * s.seqIdx.toNat) (s.wordAt (shapeBase sel + 4 * s.seqIdx.toNat))

/-- A word before the last: the copy goes on to the next index. -/
theorem waveCopy_of_lt (hsel : sel ≤ 12) (hlt : s.seqIdx.toNat + 1 < s.params.words) :
    waveCopy sel s = .next { s.copyWord sel with seqIdx := BitVec.ofNat 9 (s.seqIdx.toNat + 1) } := by
  simp only [waveCopy, if_neg (show ¬ (12 < sel ∨ s.params.words ≤ s.seqIdx.toNat) by omega),
    if_neg (show ¬ s.seqIdx.toNat = s.params.words - 1 by omega)]
  rfl

/-- The last word: the shape is selected, and only the resume is left. -/
theorem waveCopy_last (hsel : sel ≤ 12) (hlast : s.seqIdx.toNat + 1 = s.params.words) :
    waveCopy sel s = .next { s.copyWord sel with shapeSel := BitVec.ofNat 4 sel, seqPhase := .wvResume } := by
  simp only [waveCopy, if_neg (show ¬ (12 < sel ∨ s.params.words ≤ s.seqIdx.toNat) by omega),
    if_pos (show s.seqIdx.toNat = s.params.words - 1 by omega)]
  rfl

/-- A shape index fits `SHAPE_SEL` (R29). -/
theorem toNat_ofNat_shape (hsel : sel ≤ 12) : (BitVec.ofNat 4 sel).toNat = sel := by
  rw [BitVec.toNat_ofNat]
  omega

/-- The index after a word of the table fits `seq_idx` (R37). -/
theorem toNat_ofNat_index {w : Nat} (hw : w < 256) : (BitVec.ofNat 9 (w + 1)).toNat = w + 1 := by
  rw [BitVec.toNat_ofNat]
  omega

/-- Settles O22: each phase is its equation, and a copy step stores what `State.copyWord` stores. -/
theorem waveQuiescesCopiesResumes : Obligations.WaveQuiescesCopiesResumes := by
  refine fun sel s hsel => ⟨fun hp => exec_wave_of_wvQuiesce hp sel, fun hp hidx hn => ?_,
    fun hp => exec_wave_of_wvResume hp sel⟩
  have hword : (s.copyWord sel).wordAt (activeBase + 4 * s.seqIdx.toNat) =
      s.wordAt (shapeBase sel + 4 * s.seqIdx.toNat) := State.wordAt_putWord_same s _ _
  have hout (a : Nat) := State.byteAt_putWord_outside s (activeBase + 4 * s.seqIdx.toNat) a
    (s.wordAt (shapeBase sel + 4 * s.seqIdx.toNat))
  have hW : s.params.words = s.params.n / 4 := rfl
  rw [exec_wave_of_wvCopy hp]
  by_cases hlt : s.seqIdx.toNat + 1 < s.params.words
  · exact ⟨_, waveCopy_of_lt hsel hlt, hword, hout, fun _ => ⟨toNat_ofNat_index (by omega), rfl⟩,
      fun hlast => absurd hlast (by omega)⟩
  · exact ⟨_, waveCopy_last hsel (by omega), hword, hout, fun hmore => absurd hmore (by omega),
      fun _ => ⟨toNat_ofNat_shape hsel, rfl⟩⟩

/-! ### The other agents during a command -/

/-- While a command is in progress the other agents change only the engine, the BSU's data path, the flags and the bus
outputs (R7, R243). -/
theorem agentStep_frame {m : Move} (ha : m.isAgentStep = true) (hm : m ≠ .seq) (hb : s.cmdBusy = true)
    (h : runMove m s = .next t) : t = { s with
      chA := t.chA, chB := t.chB, txq := t.txq, pushTrace := t.pushTrace, osr := t.osr, osrCnt := t.osrCnt,
      pins := t.pins, outTrace := t.outTrace, err := t.err, busRdata := t.busRdata, busAck := t.busAck,
      busErr := t.busErr } := by
  have hchan (x : Chan) (hx : s.chanMove x = t) : t = { s with
      chA := t.chA, chB := t.chB, txq := t.txq, pushTrace := t.pushTrace, err := t.err } := by
    obtain ⟨_, _, _, _, _, hframe⟩ := s.chanMove_frame x
    rw [← hx, hframe]
  cases m with
  | host x =>
    rcases hostMove_eq x s with ⟨_, _, _, he⟩ | ⟨hidle, _⟩
    · cases he.symm.trans h
      rfl
    · simp [hb] at hidle
  | seq => exact absurd rfl hm
  | cha => injection h with h; rw [hchan .a h]
  | chb => injection h with h; rw [hchan .b h]
  | bsu => cases h; rw [State.bsuMove_frame]
  | clock | cycle | rst => simp [Move.isAgentStep] at ha

/-! ### The swap in progress -/

/-- A `WAVE sel` on its way, begun in a state with the parameters and `STARTED` of `s₀`: the divisor `d` is legal and
still to be applied, or it is in `DIV`; before the resume `SHAPE_SEL` has its new value. -/
structure SwapInProgress (s₀ : State) (sel d : Nat) (s : State) : Prop where
  inv : BlockInvariant s
  params_eq : s.params = s₀.params
  started_eq : s.started = s₀.started
  decoded : decodeCmd s.cmdReg = .ok (.wave sel)
  shape_le : sel ≤ 12
  generated : s.generated sel = true
  phase : s.seqPhase = .exec ∨ s.seqPhase = .wvQuiesce ∨ s.seqPhase = .wvCopy ∨ s.seqPhase = .wvResume
  wanted : s.seqPhase = .exec → s.wantedDivisor = d ∧ divisorLegal s.params d = true
  applied : s.seqPhase ≠ .exec → s.divReg.toNat = d
  selected : s.seqPhase = .wvResume → s.shapeSel.toNat = sel

/-- The sequencer's step goes on with the swap and leaves one step fewer. -/
def SwapAdvances (s₀ : State) (sel d : Nat) (s : State) : Prop :=
  ∃ t, seqMove s = .next t ∧ SwapInProgress s₀ sel d t ∧ t.seqRemaining + 1 = s.seqRemaining

namespace SwapInProgress

variable {s₀ : State} {d : Nat}

/-- A swap in progress is a command in progress, so the host can put no other in its place (R243). -/
theorem cmdBusy (h : SwapInProgress s₀ sel d s) : s.cmdBusy = true := by
  refine h.inv.sequencer.busy ?_
  rcases h.phase with hp | hp | hp | hp <;> simp [hp]

/-- What the engine, the BSU and the host change, and the choice of moves, does not touch the swap. -/
theorem of_unread (h : SwapInProgress s₀ sel d s) (hinv : BlockInvariant t) (ht : t = { s with
      chA := t.chA, chB := t.chB, txq := t.txq, pushTrace := t.pushTrace, osr := t.osr, osrCnt := t.osrCnt,
      pins := t.pins, outTrace := t.outTrace, err := t.err, busRdata := t.busRdata, busAck := t.busAck,
      busErr := t.busErr, agenda := t.agenda }) :
    SwapInProgress s₀ sel d t ∧ t.seqRemaining = s.seqRemaining := by
  rw [ht] at hinv ⊢
  exact ⟨{ h with inv := hinv }, rfl⟩

/-- After step 0 the phase names the command, for the shape in `cmd_reg[3:0]` (R224). -/
theorem seqMove_eq (h : SwapInProgress s₀ sel d s)
    (hp : s.seqPhase = .wvQuiesce ∨ s.seqPhase = .wvCopy ∨ s.seqPhase = .wvResume) :
    seqMove s = exec (.wave sel) s := by
  rw [seqMove_of_wave_phase hp, ← shapeField_eq_mod, shapeField_of_decode_wave h.decoded]

/-- Step 0: both checks pass. -/
theorem advances_of_exec (h : SwapInProgress s₀ sel d s) (hp : s.seqPhase = .exec) : SwapAdvances s₀ sel d s := by
  obtain ⟨rfl, hd⟩ := h.wanted hp
  have hlegal := (Params.legal_iff s.params).1 h.inv.registers.params_legal
  have hmove := ((seqMove_of_decode_ok hp h.decoded).trans (exec_wave_of_exec hp sel)).trans
    (waveBegin_of_legal h.shape_le h.generated hd)
  refine ⟨_, hmove, { h with
    inv := runMove_keeps_blockInvariant (m := .seq) h.inv hmove
    phase := .inr (.inl rfl)
    wanted := nofun
    applied := fun _ => toNat_ofNat_of_divisorLegal hd (by omega)
    selected := nofun }, ?_⟩
  simp [State.seqRemaining, hp, h.decoded]

/-- The quiesce: the `W` words and the resume are left. -/
theorem advances_of_wvQuiesce (h : SwapInProgress s₀ sel d s) (hp : s.seqPhase = .wvQuiesce) :
    SwapAdvances s₀ sel d s := by
  have hmove := (h.seqMove_eq (.inl hp)).trans (exec_wave_of_wvQuiesce hp sel)
  refine ⟨_, hmove, { h with
    inv := runMove_keeps_blockInvariant (m := .seq) h.inv hmove
    phase := .inr (.inr (.inl rfl))
    wanted := nofun
    applied := fun _ => h.applied (by simp [hp])
    selected := nofun }, ?_⟩
  simp [State.seqRemaining, hp]

/-- A copied word: the copy goes on, or the last word selects the shape. -/
theorem advances_of_wvCopy (h : SwapInProgress s₀ sel d s) (hp : s.seqPhase = .wvCopy) :
    SwapAdvances s₀ sel d s := by
  have hexec := (h.seqMove_eq (.inr (.inl hp))).trans (exec_wave_of_wvCopy hp sel)
  have hidx := h.inv.sequencer.copy_index hp
  obtain ⟨_, hwords, _⟩ := Params.words_of_legal h.inv.registers.params_legal
  have happlied := h.applied (by simp [hp])
  by_cases hlt : s.seqIdx.toNat + 1 < s.params.words
  · have hmove := hexec.trans (waveCopy_of_lt h.shape_le hlt)
    refine ⟨_, hmove, { h with
      inv := runMove_keeps_blockInvariant (m := .seq) h.inv hmove
      wanted := fun he => nomatch hp.symm.trans he
      selected := fun hr => nomatch hp.symm.trans hr }, ?_⟩
    simp only [State.seqRemaining, State.copyWord, State.putWord_seqPhase, State.putWord_params, hp,
      toNat_ofNat_index (show s.seqIdx.toNat < 256 by omega)]
    omega
  · have hmove := hexec.trans (waveCopy_last h.shape_le (by omega))
    refine ⟨_, hmove, { h with
      inv := runMove_keeps_blockInvariant (m := .seq) h.inv hmove
      phase := .inr (.inr (.inr rfl))
      wanted := nofun
      applied := fun _ => happlied
      selected := fun _ => toNat_ofNat_shape h.shape_le }, ?_⟩
    simp only [State.seqRemaining, hp]
    omega

/-- With more than the resume left, the sequencer's step goes on with the swap. -/
theorem advances (h : SwapInProgress s₀ sel d s) (hleft : 1 < s.seqRemaining) : SwapAdvances s₀ sel d s := by
  rcases h.phase with hp | hp | hp | hp
  · exact h.advances_of_exec hp
  · exact h.advances_of_wvQuiesce hp
  · exact h.advances_of_wvCopy hp
  · simp [State.seqRemaining, hp] at hleft

/-- The swap before a move, with the rest of the schedule still to come and the bus outputs idle. -/
theorem ready (h : SwapInProgress s₀ sel d s) (rest : List Move) :
    SwapInProgress s₀ sel d { s with agenda := rest, busAck := false, busErr := false } := by
  have hinv : BlockInvariant { s with agenda := rest, busAck := false, busErr := false } :=
    DataInvariant.block (h.inv.data.of_registers { h.inv.registers with } rfl) { h.inv.sequencer with }
  exact (h.of_unread hinv rfl).1

/-- Any agent's step goes on with the swap, and exactly a step of the sequencer leaves one step fewer. -/
theorem agentStep (h : SwapInProgress s₀ sel d s) {m : Move} {rest : List Move} (hag : s.agenda = m :: rest)
    (ha : m.isAgentStep = true) (hleft : m = .seq → 1 < s.seqRemaining) :
    ∃ u, step s = .next u ∧ SwapInProgress s₀ sel d u ∧ u.agenda = rest ∧
      u.seqRemaining + (if m == .seq then 1 else 0) = s.seqRemaining := by
  have hready := h.ready rest
  rw [step_of_agenda hag]
  by_cases hm : m = .seq
  · subst hm
    obtain ⟨u, hu, hswap, hrem⟩ := hready.advances (hleft rfl)
    exact ⟨u, hu, hswap, (runMove_params_agenda (m := .seq) hu).2, hrem⟩
  · obtain ⟨u, hu⟩ := agentStep_next ha hready.inv.registers.params_legal hready.inv.sequencer
    have hframe := agentStep_frame ha hm hready.cmdBusy hu
    obtain ⟨hswap, hrem⟩ := hready.of_unread (runMove_keeps_blockInvariant hready.inv hu) (by rw [hframe])
    exact ⟨u, hu, hswap, (runMove_params_agenda hu).2, by rw [if_neg (by simpa using hm)]; exact hrem⟩

/-- A schedule that leaves `n` of the swap's steps to come ends with the swap in progress. Induction over the
schedule. -/
theorem of_runSteps {ms later : List Move} {n : Nat} (h : SwapInProgress s₀ sel d s) (hag : s.agenda = ms ++ later)
    (hms : ∀ m, m ∈ ms → m.isAgentStep = true) (hn : 1 ≤ n) (hcount : ms.count .seq + n = s.seqRemaining) :
    ∃ u, runSteps ms.length s = .next u ∧ SwapInProgress s₀ sel d u ∧ u.agenda = later ∧ u.seqRemaining = n := by
  induction ms generalizing s with
  | nil => exact ⟨s, rfl, h, hag, by simpa using hcount.symm⟩
  | cons m rest ih =>
    rw [List.count_cons] at hcount
    obtain ⟨v, hstep, hv, hagv, hrem⟩ := h.agentStep hag (hms m List.mem_cons_self) (by
      rintro rfl
      simp only [beq_self_eq_true, if_true] at hcount
      omega)
    obtain ⟨u, hrun, hu⟩ := ih hv hagv (fun m' hm' => hms m' (List.mem_cons_of_mem _ hm')) (by omega)
    exact ⟨u, (runSteps_succ hstep).trans hrun, hu⟩

/-- With one step left, only the resume is to come. -/
theorem wvResume_of_last (h : SwapInProgress s₀ sel d s) (hlast : s.seqRemaining = 1) : s.seqPhase = .wvResume := by
  obtain ⟨hpos, _⟩ := Params.words_of_legal h.inv.registers.params_legal
  rcases h.phase with hp | hp | hp | hp
  · simp [State.seqRemaining, hp, h.decoded] at hlast
  · simp [State.seqRemaining, hp] at hlast
  · have hidx := h.inv.sequencer.copy_index hp
    simp only [State.seqRemaining, hp] at hlast
    omega
  · exact hp

/-- The resume: enabled again as `STARTED` says, the command completed (R223). -/
theorem step_resume (h : SwapInProgress s₀ sel d s) (hp : s.seqPhase = .wvResume) {rest : List Move}
    (hag : s.agenda = .seq :: rest) : step s = .next { s with
      agenda := rest, busAck := false, busErr := false, bsuEn := s.started, cmdBusy := false, seqPhase := .idle } :=
  (step_of_agenda hag).trans (((h.ready rest).seqMove_eq (.inr (.inr hp))).trans
    (exec_wave_of_wvResume (s := { s with agenda := rest, busAck := false, busErr := false }) hp sel))

/-- Before the resume every word of `ACTIVE` is the table's, as every word of its slot is (R227). -/
theorem words_of_wvResume (h : SwapInProgress s₀ sel d s) (hp : s.seqPhase = .wvResume) {w : Nat}
    (hw : w < s₀.params.words) : s.wordAt (activeBase + 4 * w) = packedWord s₀.params sel w ∧
      s.wordAt (shapeBase sel + 4 * w) = packedWord s₀.params sel w := by
  rw [← h.params_eq] at hw ⊢
  have hshape := h.selected hp
  have hloaded : s.shapeSel ≠ noShape := fun hno => by
    have hle := h.shape_le
    rw [← hshape, hno] at hle
    exact absurd hle (by decide)
  have hactive := h.inv.memory.active hloaded (by simp [hp])
  rw [hshape] at hactive
  exact ⟨hactive w hw, h.inv.memory.tables sel h.shape_le h.generated w hw⟩

end SwapInProgress

/-- Settles O23: the swap is in progress all along the schedule, which leaves only its resume to come; by then `ACTIVE`
holds the table and `SHAPE_SEL` and `DIV` their new values. -/
theorem waveSwapsUnderAnyInterleaving : Obligations.WaveSwapsUnderAnyInterleaving := by
  intro s sel d before hinv hp hdec hsel hgen hd hlow hhigh hms hcount hag
  have hbegin : SwapInProgress s sel d s := {
    inv := hinv
    params_eq := rfl
    started_eq := rfl
    decoded := hdec
    shape_le := hsel
    generated := hgen
    phase := .inl hp
    wanted := fun _ => ⟨hd.symm, (divisorLegal_iff s.params d).2 ⟨hlow, hhigh⟩⟩
    applied := fun hne => absurd hp hne
    selected := fun hr => nomatch hp.symm.trans hr }
  have hsteps : s.seqRemaining = s.params.n / 4 + 3 := by simp [State.seqRemaining, hp, hdec, Params.words]
  obtain ⟨u, hrun, hu, hagu, hlast⟩ := hbegin.of_runSteps hag hms le_rfl (by omega)
  have hpu := hu.wvResume_of_last hlast
  obtain ⟨_, _, _, _, hvalid⟩ := hu.inv.sequencer.wave (.inr (.inr hpu))
  refine ⟨_, (runSteps_add hrun).trans (runSteps_succ (hu.step_resume hpu hagu)), rfl, fun w hw => ?_,
    hu.selected hpu, hu.applied (by simp [hpu]), hvalid, hu.started_eq, hu.started_eq⟩
  obtain ⟨hactive, hslot⟩ := hu.words_of_wvResume hpu hw
  have hslot_before := hinv.memory.tables sel hsel hgen w hw
  exact ⟨hactive.trans hslot_before.symm, hslot.trans hslot_before.symm⟩

end Sys2Proof.Machine

/-! ## The sequencer's dispatch, `NOP` and the host's writes (spec/45_host_interface.md R243 to R246) -/

namespace Sys2Proof.Machine

variable {s : State}

/-- Settles O6: the step is the sequencer's, which in `EXEC` performs the decoded command. -/
theorem sequencerRunsDecodedCommand : Obligations.SequencerRunsDecodedCommand :=
  fun _ _ _ hag hp hd => (step_of_agenda hag).trans (seqMove_of_decode_ok hp hd)

/-- Settles O10: the word decodes to `NOP`, whose meaning is `State.finish`. -/
theorem nopOnlyCompletes : Obligations.NopOnlyCompletes := ⟨rfl, fun _ => rfl⟩

/-- A write to `CMD` with no command in progress is accepted (R243, R244). -/
theorem exec_wr_cmd_of_idle (hb : s.cmdBusy = false) (d : Word) :
    exec (.wr 0x0000#16 d) s = .next ((s.accept d).ackBus false) := by
  simp [exec, execWr, hb]

/-- A write to `CMD` with a command in progress is dropped with `E_CMD_OVERRUN` (R243, R266). -/
theorem exec_wr_cmd_of_busy (hb : s.cmdBusy = true) (d : Word) :
    exec (.wr 0x0000#16 d) s = .next (s.refuseBus .cmdOverrun) := by
  simp [exec, execWr, hb]

/-- A write anywhere but to `CMD` is dropped with `E_BUS` (R243, R267). -/
theorem exec_wr_of_ne_cmd {a : BitVec 16} (ha : a ≠ 0x0000#16) (d : Word) (s : State) :
    exec (.wr a d) s = .next (s.refuseBus .bus) := if_neg ha

/-- Settles O30: the three outcomes of a write; a refusal sets only its own flag and the bus outputs. -/
theorem wrAcceptsOnlyIdleCommands : Obligations.WrAcceptsOnlyIdleCommands := by
  refine fun a d s => ⟨?_, ?_, fun ha => ?_⟩
  · rintro rfl hb
    exact exec_wr_cmd_of_idle hb d
  · rintro rfl hb
    exact ⟨_, exec_wr_cmd_of_busy hb d, fun e => State.hasErr_refuseBus s .cmdOverrun e, rfl⟩
  · exact ⟨_, exec_wr_of_ne_cmd ha d s, fun e => State.hasErr_refuseBus s .bus e, rfl⟩

end Sys2Proof.Machine

/-! ## No step stops the block (spec/45_host_interface.md R246, spec/60_exceptions.md R260)

An agent's step answers by `agentStep_next`; a cycle of R305 is made of such steps. What remains is that its sequencer's
stage still finds a consistent sequencer after the host's stage. -/

namespace Sys2Proof.Machine

variable {s : State}

/-- What precedes a move is read by no part of the sequencer. -/
theorem SameSequencer.nextMove (s : State) : SameSequencer s s.nextMove.2.busIdle := by
  rw [nextMove_busIdle_eq]
  exact { SameSequencer.refl s with }

/-- A transaction always answers: at worst it is refused on the bus (R242, R243). -/
theorem hostMove_next (x : BusTxn) (s : State) : ∃ t, hostMove x s = .next t := by
  rcases hostMove_eq x s with ⟨_, _, _, he⟩ | ⟨_, _, he⟩ <;> exact ⟨_, he⟩

theorem cycleHost_next (x : Option BusTxn) (s : State) : ∃ t, cycleHost x s = .next t := by
  cases x with
  | none => exact ⟨s, rfl⟩
  | some txn => exact hostMove_next txn s

/-- The sequencer in a cycle waits or takes its step (R305). -/
theorem seqClocked_next (hl : s.params.legal = true) (h : SequencerConsistent s) : ∃ t, seqClocked s = .next t := by
  unfold seqClocked
  split
  · exact ⟨_, rfl⟩
  · have same : SameSequencer s { s with genWait := 0 } := { SameSequencer.refl s with }
    exact agentStep_next (m := .seq) rfl (same.params ▸ hl) (same.consistent h)

/-- The first two stages of a cycle: with a command in progress the host's stage leaves the sequencer alone (R243). -/
theorem cycleFront_next (x : Option BusTxn) (hl : s.params.legal = true) (h : SequencerConsistent s) :
    ∃ t, cycleFront x s = .next t := by
  obtain ⟨s1, h1⟩ := cycleHost_next x s
  simp only [cycleFront, h1]
  split
  · exact ⟨s1, rfl⟩
  · rename_i hp
    have same := SameSequencer.cycleHost (h.busy hp) h1
    exact seqClocked_next (same.params ▸ hl) (same.consistent h)

/-- No move stops the block while the sequencer is consistent. -/
theorem runMove_next (m : Move) (hl : s.params.legal = true) (h : SequencerConsistent s) :
    ∃ t, runMove m s = .next t := by
  cases m with
  | host | seq | cha | chb | bsu => exact agentStep_next rfl hl h
  | clock | rst => exact ⟨_, rfl⟩
  | cycle x =>
    obtain ⟨t, ht⟩ := cycleFront_next x hl h
    exact ⟨t.dmaMove.clockEdge, by simp only [runMove, cycleMove, ht]⟩

/-- Settles O44: the invariant keeps the sequencer consistent, and then no move faults or is refused. -/
theorem stepsNeverStop : Obligations.StepsNeverStop := by
  intro s hinv
  have same := SameSequencer.nextMove s
  exact runMove_next s.nextMove.1 (same.params ▸ hinv.registers.params_legal) (same.consistent hinv.sequencer)

end Sys2Proof.Machine

/-! ## The error flags are sticky (spec/60_exceptions.md R260, R275)

Every move either leaves `ERR` alone or writes it through `State.raise`, which only sets bits. `exec_keepsErrors` says so
for the instructions and `chanMove_keepsErrors` for the channels; no other operation of a move writes `ERR`. -/

namespace Sys2Proof.Machine

/-- Every error flag set in `s` is set in `t`. -/
def KeepsErrors (s t : State) : Prop := ∀ e, s.hasErr e = true → t.hasErr e = true

variable {s t u : State}

/-! ### The operations -/

namespace KeepsErrors

theorem of_err_eq (h : t.err = s.err) : KeepsErrors s t := fun e he => (State.hasErr_congr h e).trans he

theorem refl (s : State) : KeepsErrors s s := of_err_eq rfl

theorem trans (h : KeepsErrors s t) (k : KeepsErrors t u) : KeepsErrors s u := fun e he => k e (h e he)

/-- Raising a cause sets its flag and keeps the others, so that a cause raised twice stays recorded (R260). -/
theorem raise (s : State) (c : ErrCause) : KeepsErrors s (s.raise c) := fun e he => by
  rw [State.hasErr_raise, he, Bool.or_true]

/-- Completing a command after a raise keeps the flags: `finish` does not write `ERR`. -/
theorem refuseCmd (s : State) (c : ErrCause) : KeepsErrors s (s.refuseCmd c) :=
  (raise s c).trans (of_err_eq rfl)

theorem refuseBus (s : State) (c : ErrCause) : KeepsErrors s (s.refuseBus c) :=
  (raise s c).trans (of_err_eq rfl)

theorem startChecks (s : State) : KeepsErrors s s.startChecks := fun e he => by
  rw [State.hasErr_startChecks, he, Bool.true_or, Bool.true_or]

theorem applyDivisor (h : s.applyDivisor = some t) : KeepsErrors s t := by
  rw [State.applyDivisor_frame h]
  exact of_err_eq rfl

end KeepsErrors

/-! ### The instructions and the sequencer -/

theorem execGen_keepsErrors {sel : Nat} (h : execGen sel s = .next t) : KeepsErrors s t := by
  unfold execGen at h
  split at h <;> cases h
  · exact .refuseCmd s _
  · exact .of_err_eq rfl

theorem genallBegin_keepsErrors (h : genallBegin s = .next t) : KeepsErrors s t := by
  unfold genallBegin at h
  split at h <;> cases h
  · exact .refuseCmd s _
  · exact .of_err_eq rfl

theorem genallStep_keepsErrors (h : genallStep s = .next t) : KeepsErrors s t := by
  simp only [genallStep] at h
  split at h
  · cases h
  · split at h <;> cases h <;> exact .of_err_eq rfl

theorem execGenall_keepsErrors (h : execGenall s = .next t) : KeepsErrors s t := by
  unfold execGenall at h
  split at h
  · exact genallStep_keepsErrors h
  all_goals exact genallBegin_keepsErrors h

theorem execApplydiv_keepsErrors (h : execApplydiv s = .next t) : KeepsErrors s t := by
  unfold execApplydiv at h
  split at h <;> cases h
  · rename_i hd
    exact (KeepsErrors.applyDivisor hd).trans (.of_err_eq rfl)
  · exact .refuseCmd s _

theorem waveBegin_keepsErrors {sel : Nat} (h : waveBegin sel s = .next t) : KeepsErrors s t := by
  unfold waveBegin at h
  split at h
  · cases h
    exact .refuseCmd s _
  · split at h <;> cases h
    · rename_i hd
      exact (KeepsErrors.applyDivisor hd).trans (.of_err_eq rfl)
    · exact .refuseCmd s _

theorem waveCopy_keepsErrors {sel : Nat} (h : waveCopy sel s = .next t) : KeepsErrors s t := by
  simp only [waveCopy] at h
  split at h
  · cases h
  · split at h <;> cases h <;> exact .of_err_eq rfl

theorem execWave_keepsErrors {sel : Nat} (h : execWave sel s = .next t) : KeepsErrors s t := by
  unfold execWave at h
  split at h
  · cases h; exact .of_err_eq rfl
  · exact waveCopy_keepsErrors h
  · cases h; exact .of_err_eq rfl
  all_goals exact waveBegin_keepsErrors h

theorem execStart_keepsErrors (h : execStart s = .next t) : KeepsErrors s t := by
  unfold execStart at h
  split at h
  · cases h
    exact .refuseCmd s _
  · split at h <;> cases h <;> exact (KeepsErrors.startChecks s).trans (.of_err_eq rfl)

theorem execRd_keepsErrors {addr : BitVec 16} (h : execRd addr s = .next t) : KeepsErrors s t := by
  simp only [execRd] at h
  split at h <;> cases h
  · exact .of_err_eq rfl
  · exact (KeepsErrors.refuseBus s .bus).trans (.of_err_eq rfl)

theorem execWr_keepsErrors {addr : BitVec 16} {data : Word} (h : execWr addr data s = .next t) : KeepsErrors s t := by
  unfold execWr at h
  split at h
  · split at h <;> cases h
    · exact .refuseBus s _
    · exact .of_err_eq rfl
  · cases h
    exact .refuseBus s _

/-- No instruction clears an error flag. -/
theorem exec_keepsErrors {i : Instr} (h : exec i s = .next t) : KeepsErrors s t := by
  cases i with
  | nop | setf | fdelta | mdelta | quiesce | resume => cases h; exact .of_err_eq rfl
  | gen sel => exact execGen_keepsErrors h
  | genall => exact execGenall_keepsErrors h
  | applydiv => exact execApplydiv_keepsErrors h
  | wave sel => exact execWave_keepsErrors h
  | start => exact execStart_keepsErrors h
  | rd addr => exact execRd_keepsErrors h
  | wr addr data => exact execWr_keepsErrors h

/-- The sequencer executes an instruction, or refuses an illegal word (R96, R246). -/
theorem seqMove_keepsErrors (h : seqMove s = .next t) : KeepsErrors s t := by
  unfold seqMove at h
  split at h
  · cases h; exact .refl s
  · split at h
    · exact exec_keepsErrors h
    · cases h; exact .refuseCmd s _
  all_goals exact exec_keepsErrors h

theorem cycleHost_keepsErrors {x : Option BusTxn} (h : cycleHost x s = .next t) : KeepsErrors s t := by
  cases x with
  | none => cases h; exact .refl s
  | some txn => exact exec_keepsErrors h

theorem seqClocked_keepsErrors (h : seqClocked s = .next t) : KeepsErrors s t := by
  unfold seqClocked at h
  split at h
  · cases h; exact .of_err_eq rfl
  · exact KeepsErrors.trans (t := { s with genWait := 0 }) (.of_err_eq rfl) (seqMove_keepsErrors h)

/-! ### The channels, the Bit-Streaming Unit and the clock -/

@[simp] theorem State.completeRun_err (s : State) (x : Chan) : (s.completeRun x).err = s.err := by
  simp only [State.completeRun]
  split <;> simp

theorem dmaRead_keepsErrors (s : State) (addr : Word) : KeepsErrors s (s.dmaRead addr).2 := by
  rcases s.dmaRead_cases addr with ⟨h, _⟩ | ⟨h, _⟩ <;> rw [h]
  · exact .refl s
  · exact .raise s .bus

theorem dmaWrite_keepsErrors (s : State) (addr v : Word) : KeepsErrors s (s.dmaWrite addr v) := by
  rcases s.dmaWrite_cases addr v with h | h | h <;> rw [h]
  · exact .of_err_eq (s.pushTxq_err v)
  · exact .of_err_eq rfl
  · exact .raise s .bus

/-- A transfer raises `E_BUS` at most, by its load or its store (R64, R192). -/
theorem moveWord_keepsErrors (s : State) (x : Chan) : KeepsErrors s (s.moveWord x) :=
  (dmaRead_keepsErrors s _).trans (dmaWrite_keepsErrors _ _ _)

/-- What follows the load and the store of a transfer, the advance and the end of the run, writes no flag. -/
theorem chanStep_err (s : State) (x : Chan) : (s.chanStep x).err = (s.moveWord x).err := by
  simp only [State.chanStep]
  split <;> simp

theorem chanMove_keepsErrors (s : State) (x : Chan) : KeepsErrors s (s.chanMove x) := by
  unfold State.chanMove
  split
  · exact (moveWord_keepsErrors s x).trans (.of_err_eq (chanStep_err s x))
  · split
    · exact .of_err_eq (s.completeRun_err x)
    · exact .refl s

@[simp] theorem State.bsuMove_err (s : State) : s.bsuMove.err = s.err := by rw [State.bsuMove_frame]
@[simp] theorem State.clockEdge_err (s : State) : s.clockEdge.err = s.err := by rw [State.clockEdge_frame]

/-! ### Every move -/

/-- The four stages of a cycle one after the other (R305). -/
theorem cycleMove_keepsErrors {x : Option BusTxn} (h : cycleMove x s = .next t) : KeepsErrors s t := by
  obtain ⟨s1, s2, hhost, _, hidle, hseq, rfl⟩ := cycleMove_cases h
  have hfront : KeepsErrors s1 s2 := by
    by_cases hp : s.seqPhase = .idle
    · exact hidle hp ▸ .refl s1
    · exact seqClocked_keepsErrors (hseq hp)
  have hback : KeepsErrors s2 s2.dmaMove.clockEdge :=
    (chanMove_keepsErrors s2 s2.dmaChannel).trans (.of_err_eq (State.clockEdge_err _))
  exact (cycleHost_keepsErrors hhost).trans (hfront.trans hback)

/-- Settles O46: an agent's move sets flags at most, and a cycle is made of such moves. -/
theorem errorFlagsAreSticky : Obligations.ErrorFlagsAreSticky := by
  intro m s t hm h
  change KeepsErrors s t
  cases m with
  | host x => exact exec_keepsErrors h
  | seq => exact seqMove_keepsErrors h
  | cha | chb => cases h; exact chanMove_keepsErrors s _
  | bsu => cases h; exact .of_err_eq s.bsuMove_err
  | clock => cases h; exact .of_err_eq s.clockEdge_err
  | cycle x => exact cycleMove_keepsErrors h
  | rst => exact absurd rfl hm

end Sys2Proof.Machine
